-- ==== Sys2Proof/Word.lean ====
section
/-! DEFINITION. The two widths of the core: 8-bit values and 16-bit values and addresses (R7). -/

namespace Sys2Proof

/-- An 8-bit register, memory byte or port byte (R7). -/
abbrev Byte := BitVec 8

/-- A 16-bit register, pair or memory address (R7). -/
abbrev Word := BitVec 16

end Sys2Proof
end

