-- ==== Sys2Proof/Machine/Bits.lean ====
section
/-! DEFINITION. Bit-field, byte-order and sign-extension helpers (R10, R11, R12). -/

namespace Sys2Proof

/-- `(h << 8) | l`: a pair has its first-named register in the high byte (R11, R21). -/
def pack (h l : Byte) : Word := h ++ l

/-- `v[15:8]` (R10). -/
def hiByte (v : Word) : Byte := v.extractLsb' 8 8

/-- `v[7:0]` (R10). -/
def loByte (v : Word) : Byte := v.extractLsb' 0 8

/-- `sext_16(d)`: a displacement or relative offset as a 16-bit value (R10, R81). -/
def sext16 (d : Byte) : Word := d.signExtend 16

/-- `zext_16(p)` (R10). -/
def zext16 (p : Byte) : Word := p.setWidth 16

/-- `v[3:0]` as a number (R10). -/
def loNibble (v : Byte) : Nat := v.toNat % 16

/-- `v[3:0]` as four bits. -/
def lo4 (v : Byte) : BitVec 4 := v.extractLsb' 0 4

/-- `v[7:4]` as four bits. -/
def hi4 (v : Byte) : BitVec 4 := v.extractLsb' 4 4

/-- `v[2:0]` zero-extended to 8 bits, as the parities of R158 and R159 take it. -/
def lo3 (v : Byte) : Byte := v &&& 0x07#8

/-- 1 when the 8-bit v has an even number of 1 bits (R12). -/
def parity (v : Byte) : Bool :=
  !(v.getLsbD 0 ^^ v.getLsbD 1 ^^ v.getLsbD 2 ^^ v.getLsbD 3 ^^
    v.getLsbD 4 ^^ v.getLsbD 5 ^^ v.getLsbD 6 ^^ v.getLsbD 7)

/-- R after k M1 cycles: the low seven bits count modulo 128 and bit 7 is kept (R14, R30). -/
def bumpRefresh (k : Nat) (r : Byte) : Byte :=
  (r &&& 0x80#8) ||| ((r + BitVec.ofNat 8 k) &&& 0x7F#8)

/-- The low byte of an address plus one, wrapped to 8 bits with no carry (R113, R115, R253). -/
def lowPlusOne (v : Word) : Byte := loByte v + 1#8

end Sys2Proof
end

