-- ==== Sys2Proof/Syntax.lean ====
section
/-! DEFINITION. The instructions as syntax. `Instr` has one constructor per mnemonic of
spec/opcode_table.json (two for LD (nn),HL and for LD HL,(nn), whose base and ED forms are two rows
with different lengths and cycles). `Op` says the same instructions by operation and operand
fields (R73 to R80), the way the rules of files 40 to 49 name them. -/

namespace Sys2Proof

/-- The 8-bit register field r[k] without (HL) (R76). Under an index prefix h and l name the halves where
R83 says so. -/
inductive Reg8
  | b | c | d | e | h | l | a
  deriving DecidableEq, Repr

/-- The index register a DD (ix) or FD (iy) prefix selects (R71). -/
inductive Idx
  | ix | iy
  deriving DecidableEq, Repr

/-- A half of an index register (R23). -/
inductive Half
  | high | low
  deriving DecidableEq, Repr

/-- The pair field rp[p] (R77). Under an index prefix `hl` in ADD ii,rr means the index register (R83). -/
inductive Pair
  | bc | de | hl | sp
  deriving DecidableEq, Repr

/-- The pair field rp2[p] of PUSH and POP (R77). -/
inductive StackPair
  | bc | de | hl | af
  deriving DecidableEq, Repr

/-- The pairs LD A,(rr) and LD (rr),A address through (R112, R113). -/
inductive AddrPair
  | bc | de
  deriving DecidableEq, Repr

/-- The condition field cc[y] (R79). -/
inductive Cond
  | nz | z | nc | c | po | pe | p | m
  deriving DecidableEq, Repr

/-- The four conditions of JR (R79, R233). -/
inductive JrCond
  | nz | z | nc | c
  deriving DecidableEq, Repr

/-- The ALU field alu[y] (R78). -/
inductive Alu
  | add | adc | sub | sbc | and | xor | or | cp
  deriving DecidableEq, Repr

/-- The rotate field rot[y] (R78). -/
inductive Rot
  | rlc | rrc | rl | rr | sla | sra | sll | srl
  deriving DecidableEq, Repr

/-- The interrupt mode (R32): three values, and 3 never occurs. -/
inductive IntMode
  | im0 | im1 | im2
  deriving DecidableEq, Repr

/-- Which way a block instruction steps through memory (R141, R142). -/
inductive Dir
  | inc | dec
  deriving DecidableEq, Repr

/-- The unprefixed instructions by operation and fields (R82). -/
inductive BaseOp
  | nop
  | exAfAf
  | djnz (e : Byte)
  | jr (e : Byte)
  | jrCc (cc : JrCond) (e : Byte)
  | ldPairN (p : Pair) (nn : Word)
  | addHl (p : Pair)
  | stA (rr : AddrPair)
  | ldA (rr : AddrPair)
  | stHl (nn : Word)
  | ldHl (nn : Word)
  | stAAbs (nn : Word)
  | ldAAbs (nn : Word)
  | incPair (p : Pair)
  | decPair (p : Pair)
  | incReg (r : Reg8)
  | incMem
  | decReg (r : Reg8)
  | decMem
  | ldRegN (r : Reg8) (n : Byte)
  | ldMemN (n : Byte)
  | rlca | rrca | rla | rra
  | daa | cpl | scf | ccf
  | halt
  | ldRegReg (dst src : Reg8)
  | ldRegMem (r : Reg8)
  | ldMemReg (r : Reg8)
  | aluReg (k : Alu) (r : Reg8)
  | aluMem (k : Alu)
  | aluN (k : Alu) (n : Byte)
  | retCc (cc : Cond)
  | pop (q : StackPair)
  | push (q : StackPair)
  | ret
  | exx
  | jpHl
  | ldSpHl
  | jpCc (cc : Cond) (nn : Word)
  | jp (nn : Word)
  | outNA (n : Byte)
  | inAN (n : Byte)
  | exSpHl
  | exDeHl
  | di
  | ei
  | callCc (cc : Cond) (nn : Word)
  | call (nn : Word)
  | rst (y : BitVec 3)
  deriving DecidableEq, Repr

/-- The CB instructions (R85). `b` is the bit number (R80). -/
inductive CbOp
  | rotReg (k : Rot) (r : Reg8)
  | rotMem (k : Rot)
  | bitReg (b : BitVec 3) (r : Reg8)
  | bitMem (b : BitVec 3)
  | resReg (b : BitVec 3) (r : Reg8)
  | resMem (b : BitVec 3)
  | setReg (b : BitVec 3) (r : Reg8)
  | setMem (b : BitVec 3)
  deriving DecidableEq, Repr

/-- The ED instructions (R87). The field `y` of NEG, RETN and IM says which of the identical encodings it is,
and `op` of NOP* which of the unassigned bytes. -/
inductive EdOp
  | inReg (r : Reg8)
  | inF
  | outReg (r : Reg8)
  | outZero
  | sbcHl (p : Pair)
  | adcHl (p : Pair)
  | stPair (nn : Word) (p : Pair)
  | ldPair (p : Pair) (nn : Word)
  | neg (y : BitVec 3)
  | retn (y : BitVec 3)
  | reti
  | im (m : IntMode) (y : BitVec 3)
  | ldIA | ldRA | ldAI | ldAR
  | rrd | rld
  | blockLd (d : Dir) (rep : Bool)
  | blockCp (d : Dir) (rep : Bool)
  | blockIn (d : Dir) (rep : Bool)
  | blockOut (d : Dir) (rep : Bool)
  | nopStar (op : Byte)
  deriving DecidableEq, Repr

/-- The base instructions an index prefix affects, with HL, H, L and (HL) substituted (R83, R84). -/
inductive IdxOp
  | add (p : Pair)
  | ldN (nn : Word)
  | st (nn : Word)
  | ld (nn : Word)
  | inc
  | dec
  | incHalf (x : Half)
  | decHalf (x : Half)
  | ldHalfN (x : Half) (n : Byte)
  | incMem (d : Byte)
  | decMem (d : Byte)
  | ldMemN (d n : Byte)
  | ldRegReg (dst src : Reg8)
  | ldRegMem (r : Reg8) (d : Byte)
  | ldMemReg (d : Byte) (r : Reg8)
  | aluHalf (k : Alu) (x : Half)
  | aluMem (k : Alu) (d : Byte)
  | pop
  | push
  | exSp
  | jp
  | ldSp
  deriving DecidableEq, Repr

/-- The DDCB and FDCB instructions (R86). `copy` is the register the result is also written to, none for z = 6;
`z` of BIT says which of the eight identical encodings it is. -/
inductive IdxCbOp
  | rot (k : Rot) (copy : Option Reg8)
  | bit (b : BitVec 3) (z : BitVec 3)
  | res (b : BitVec 3) (copy : Option Reg8)
  | set (b : BitVec 3) (copy : Option Reg8)
  deriving DecidableEq, Repr

/-- An instruction by prefix state, operation and fields (R71). -/
inductive Op
  | base (o : BaseOp)
  | cb (o : CbOp)
  | ed (o : EdOp)
  | idx (ii : Idx) (o : IdxOp)
  | idxCb (ii : Idx) (d : Byte) (o : IdxCbOp)
  /-- An index prefix before an opcode it does not affect (R266). -/
  | ignored (ii : Idx) (o : BaseOp)
  /-- An index prefix before an ED instruction (R89). -/
  | ignoredEd (ii : Idx) (o : EdOp)
  /-- A redundant index prefix: `first` is discarded and `second` is kept (R88, R267). -/
  | redundant (first second : Idx)
  deriving DecidableEq, Repr

/-- The instructions: one constructor per mnemonic of spec/opcode_table.json, in the table's order. `ii` is the
index register, `n` and `nn` the immediates (R74, R75), `e` the relative offset and `d` the displacement (R81). -/
inductive Instr
  | nop  -- NOP
  | ldBcNn (nn : Word)  -- LD BC,nn
  | ldAtBcA  -- LD (BC),A
  | incBc  -- INC BC
  | incB  -- INC B
  | decB  -- DEC B
  | ldBN (n : Byte)  -- LD B,n
  | rlca  -- RLCA
  | exAfAf  -- EX AF,AF'
  | addHlBc  -- ADD HL,BC
  | ldAAtBc  -- LD A,(BC)
  | decBc  -- DEC BC
  | incC  -- INC C
  | decC  -- DEC C
  | ldCN (n : Byte)  -- LD C,n
  | rrca  -- RRCA
  | djnzE (e : Byte)  -- DJNZ e
  | ldDeNn (nn : Word)  -- LD DE,nn
  | ldAtDeA  -- LD (DE),A
  | incDe  -- INC DE
  | incD  -- INC D
  | decD  -- DEC D
  | ldDN (n : Byte)  -- LD D,n
  | rla  -- RLA
  | jrE (e : Byte)  -- JR e
  | addHlDe  -- ADD HL,DE
  | ldAAtDe  -- LD A,(DE)
  | decDe  -- DEC DE
  | incE  -- INC E
  | decE  -- DEC E
  | ldEN (n : Byte)  -- LD E,n
  | rra  -- RRA
  | jrNzE (e : Byte)  -- JR NZ,e
  | ldHlNn (nn : Word)  -- LD HL,nn
  | ldAtNnHl (nn : Word)  -- LD (nn),HL
  | incHl  -- INC HL
  | incH  -- INC H
  | decH  -- DEC H
  | ldHN (n : Byte)  -- LD H,n
  | daa  -- DAA
  | jrZE (e : Byte)  -- JR Z,e
  | addHlHl  -- ADD HL,HL
  | ldHlAtNn (nn : Word)  -- LD HL,(nn)
  | decHl  -- DEC HL
  | incL  -- INC L
  | decL  -- DEC L
  | ldLN (n : Byte)  -- LD L,n
  | cpl  -- CPL
  | jrNcE (e : Byte)  -- JR NC,e
  | ldSpNn (nn : Word)  -- LD SP,nn
  | ldAtNnA (nn : Word)  -- LD (nn),A
  | incSp  -- INC SP
  | incAtHl  -- INC (HL)
  | decAtHl  -- DEC (HL)
  | ldAtHlN (n : Byte)  -- LD (HL),n
  | scf  -- SCF
  | jrCE (e : Byte)  -- JR C,e
  | addHlSp  -- ADD HL,SP
  | ldAAtNn (nn : Word)  -- LD A,(nn)
  | decSp  -- DEC SP
  | incA  -- INC A
  | decA  -- DEC A
  | ldAN (n : Byte)  -- LD A,n
  | ccf  -- CCF
  | ldBB  -- LD B,B
  | ldBC  -- LD B,C
  | ldBD  -- LD B,D
  | ldBE  -- LD B,E
  | ldBH  -- LD B,H
  | ldBL  -- LD B,L
  | ldBAtHl  -- LD B,(HL)
  | ldBA  -- LD B,A
  | ldCB  -- LD C,B
  | ldCC  -- LD C,C
  | ldCD  -- LD C,D
  | ldCE  -- LD C,E
  | ldCH  -- LD C,H
  | ldCL  -- LD C,L
  | ldCAtHl  -- LD C,(HL)
  | ldCA  -- LD C,A
  | ldDB  -- LD D,B
  | ldDC  -- LD D,C
  | ldDD  -- LD D,D
  | ldDE  -- LD D,E
  | ldDH  -- LD D,H
  | ldDL  -- LD D,L
  | ldDAtHl  -- LD D,(HL)
  | ldDA  -- LD D,A
  | ldEB  -- LD E,B
  | ldEC  -- LD E,C
  | ldED  -- LD E,D
  | ldEE  -- LD E,E
  | ldEH  -- LD E,H
  | ldEL  -- LD E,L
  | ldEAtHl  -- LD E,(HL)
  | ldEA  -- LD E,A
  | ldHB  -- LD H,B
  | ldHC  -- LD H,C
  | ldHD  -- LD H,D
  | ldHE  -- LD H,E
  | ldHH  -- LD H,H
  | ldHL  -- LD H,L
  | ldHAtHl  -- LD H,(HL)
  | ldHA  -- LD H,A
  | ldLB  -- LD L,B
  | ldLC  -- LD L,C
  | ldLD  -- LD L,D
  | ldLE  -- LD L,E
  | ldLH  -- LD L,H
  | ldLL  -- LD L,L
  | ldLAtHl  -- LD L,(HL)
  | ldLA  -- LD L,A
  | ldAtHlB  -- LD (HL),B
  | ldAtHlC  -- LD (HL),C
  | ldAtHlD  -- LD (HL),D
  | ldAtHlE  -- LD (HL),E
  | ldAtHlH  -- LD (HL),H
  | ldAtHlL  -- LD (HL),L
  | halt  -- HALT
  | ldAtHlA  -- LD (HL),A
  | ldAB  -- LD A,B
  | ldAC  -- LD A,C
  | ldAD  -- LD A,D
  | ldAE  -- LD A,E
  | ldAH  -- LD A,H
  | ldAL  -- LD A,L
  | ldAAtHl  -- LD A,(HL)
  | ldAA  -- LD A,A
  | addAB  -- ADD A,B
  | addAC  -- ADD A,C
  | addAD  -- ADD A,D
  | addAE  -- ADD A,E
  | addAH  -- ADD A,H
  | addAL  -- ADD A,L
  | addAAtHl  -- ADD A,(HL)
  | addAA  -- ADD A,A
  | adcAB  -- ADC A,B
  | adcAC  -- ADC A,C
  | adcAD  -- ADC A,D
  | adcAE  -- ADC A,E
  | adcAH  -- ADC A,H
  | adcAL  -- ADC A,L
  | adcAAtHl  -- ADC A,(HL)
  | adcAA  -- ADC A,A
  | subB  -- SUB B
  | subC  -- SUB C
  | subD  -- SUB D
  | subE  -- SUB E
  | subH  -- SUB H
  | subL  -- SUB L
  | subAtHl  -- SUB (HL)
  | subA  -- SUB A
  | sbcAB  -- SBC A,B
  | sbcAC  -- SBC A,C
  | sbcAD  -- SBC A,D
  | sbcAE  -- SBC A,E
  | sbcAH  -- SBC A,H
  | sbcAL  -- SBC A,L
  | sbcAAtHl  -- SBC A,(HL)
  | sbcAA  -- SBC A,A
  | andB  -- AND B
  | andC  -- AND C
  | andD  -- AND D
  | andE  -- AND E
  | andH  -- AND H
  | andL  -- AND L
  | andAtHl  -- AND (HL)
  | andA  -- AND A
  | xorB  -- XOR B
  | xorC  -- XOR C
  | xorD  -- XOR D
  | xorE  -- XOR E
  | xorH  -- XOR H
  | xorL  -- XOR L
  | xorAtHl  -- XOR (HL)
  | xorA  -- XOR A
  | orB  -- OR B
  | orC  -- OR C
  | orD  -- OR D
  | orE  -- OR E
  | orH  -- OR H
  | orL  -- OR L
  | orAtHl  -- OR (HL)
  | orA  -- OR A
  | cpB  -- CP B
  | cpC  -- CP C
  | cpD  -- CP D
  | cpE  -- CP E
  | cpH  -- CP H
  | cpL  -- CP L
  | cpAtHl  -- CP (HL)
  | cpA  -- CP A
  | retNz  -- RET NZ
  | popBc  -- POP BC
  | jpNzNn (nn : Word)  -- JP NZ,nn
  | jpNn (nn : Word)  -- JP nn
  | callNzNn (nn : Word)  -- CALL NZ,nn
  | pushBc  -- PUSH BC
  | addAN (n : Byte)  -- ADD A,n
  | rst00  -- RST 00H
  | retZ  -- RET Z
  | ret  -- RET
  | jpZNn (nn : Word)  -- JP Z,nn
  | callZNn (nn : Word)  -- CALL Z,nn
  | callNn (nn : Word)  -- CALL nn
  | adcAN (n : Byte)  -- ADC A,n
  | rst08  -- RST 08H
  | retNc  -- RET NC
  | popDe  -- POP DE
  | jpNcNn (nn : Word)  -- JP NC,nn
  | outAtNA (n : Byte)  -- OUT (n),A
  | callNcNn (nn : Word)  -- CALL NC,nn
  | pushDe  -- PUSH DE
  | subN (n : Byte)  -- SUB n
  | rst10  -- RST 10H
  | retC  -- RET C
  | exx  -- EXX
  | jpCNn (nn : Word)  -- JP C,nn
  | inAAtN (n : Byte)  -- IN A,(n)
  | callCNn (nn : Word)  -- CALL C,nn
  | sbcAN (n : Byte)  -- SBC A,n
  | rst18  -- RST 18H
  | retPo  -- RET PO
  | popHl  -- POP HL
  | jpPoNn (nn : Word)  -- JP PO,nn
  | exAtSpHl  -- EX (SP),HL
  | callPoNn (nn : Word)  -- CALL PO,nn
  | pushHl  -- PUSH HL
  | andN (n : Byte)  -- AND n
  | rst20  -- RST 20H
  | retPe  -- RET PE
  | jpAtHl  -- JP (HL)
  | jpPeNn (nn : Word)  -- JP PE,nn
  | exDeHl  -- EX DE,HL
  | callPeNn (nn : Word)  -- CALL PE,nn
  | xorN (n : Byte)  -- XOR n
  | rst28  -- RST 28H
  | retP  -- RET P
  | popAf  -- POP AF
  | jpPNn (nn : Word)  -- JP P,nn
  | di  -- DI
  | callPNn (nn : Word)  -- CALL P,nn
  | pushAf  -- PUSH AF
  | orN (n : Byte)  -- OR n
  | rst30  -- RST 30H
  | retM  -- RET M
  | ldSpHl  -- LD SP,HL
  | jpMNn (nn : Word)  -- JP M,nn
  | ei  -- EI
  | callMNn (nn : Word)  -- CALL M,nn
  | cpN (n : Byte)  -- CP n
  | rst38  -- RST 38H
  | rlcB  -- RLC B
  | rlcC  -- RLC C
  | rlcD  -- RLC D
  | rlcE  -- RLC E
  | rlcH  -- RLC H
  | rlcL  -- RLC L
  | rlcAtHl  -- RLC (HL)
  | rlcA  -- RLC A
  | rrcB  -- RRC B
  | rrcC  -- RRC C
  | rrcD  -- RRC D
  | rrcE  -- RRC E
  | rrcH  -- RRC H
  | rrcL  -- RRC L
  | rrcAtHl  -- RRC (HL)
  | rrcA  -- RRC A
  | rlB  -- RL B
  | rlC  -- RL C
  | rlD  -- RL D
  | rlE  -- RL E
  | rlH  -- RL H
  | rlL  -- RL L
  | rlAtHl  -- RL (HL)
  | rlA  -- RL A
  | rrB  -- RR B
  | rrC  -- RR C
  | rrD  -- RR D
  | rrE  -- RR E
  | rrH  -- RR H
  | rrL  -- RR L
  | rrAtHl  -- RR (HL)
  | rrA  -- RR A
  | slaB  -- SLA B
  | slaC  -- SLA C
  | slaD  -- SLA D
  | slaE  -- SLA E
  | slaH  -- SLA H
  | slaL  -- SLA L
  | slaAtHl  -- SLA (HL)
  | slaA  -- SLA A
  | sraB  -- SRA B
  | sraC  -- SRA C
  | sraD  -- SRA D
  | sraE  -- SRA E
  | sraH  -- SRA H
  | sraL  -- SRA L
  | sraAtHl  -- SRA (HL)
  | sraA  -- SRA A
  | sllB  -- SLL B
  | sllC  -- SLL C
  | sllD  -- SLL D
  | sllE  -- SLL E
  | sllH  -- SLL H
  | sllL  -- SLL L
  | sllAtHl  -- SLL (HL)
  | sllA  -- SLL A
  | srlB  -- SRL B
  | srlC  -- SRL C
  | srlD  -- SRL D
  | srlE  -- SRL E
  | srlH  -- SRL H
  | srlL  -- SRL L
  | srlAtHl  -- SRL (HL)
  | srlA  -- SRL A
  | bit0B  -- BIT 0,B
  | bit0C  -- BIT 0,C
  | bit0D  -- BIT 0,D
  | bit0E  -- BIT 0,E
  | bit0H  -- BIT 0,H
  | bit0L  -- BIT 0,L
  | bit0AtHl  -- BIT 0,(HL)
  | bit0A  -- BIT 0,A
  | bit1B  -- BIT 1,B
  | bit1C  -- BIT 1,C
  | bit1D  -- BIT 1,D
  | bit1E  -- BIT 1,E
  | bit1H  -- BIT 1,H
  | bit1L  -- BIT 1,L
  | bit1AtHl  -- BIT 1,(HL)
  | bit1A  -- BIT 1,A
  | bit2B  -- BIT 2,B
  | bit2C  -- BIT 2,C
  | bit2D  -- BIT 2,D
  | bit2E  -- BIT 2,E
  | bit2H  -- BIT 2,H
  | bit2L  -- BIT 2,L
  | bit2AtHl  -- BIT 2,(HL)
  | bit2A  -- BIT 2,A
  | bit3B  -- BIT 3,B
  | bit3C  -- BIT 3,C
  | bit3D  -- BIT 3,D
  | bit3E  -- BIT 3,E
  | bit3H  -- BIT 3,H
  | bit3L  -- BIT 3,L
  | bit3AtHl  -- BIT 3,(HL)
  | bit3A  -- BIT 3,A
  | bit4B  -- BIT 4,B
  | bit4C  -- BIT 4,C
  | bit4D  -- BIT 4,D
  | bit4E  -- BIT 4,E
  | bit4H  -- BIT 4,H
  | bit4L  -- BIT 4,L
  | bit4AtHl  -- BIT 4,(HL)
  | bit4A  -- BIT 4,A
  | bit5B  -- BIT 5,B
  | bit5C  -- BIT 5,C
  | bit5D  -- BIT 5,D
  | bit5E  -- BIT 5,E
  | bit5H  -- BIT 5,H
  | bit5L  -- BIT 5,L
  | bit5AtHl  -- BIT 5,(HL)
  | bit5A  -- BIT 5,A
  | bit6B  -- BIT 6,B
  | bit6C  -- BIT 6,C
  | bit6D  -- BIT 6,D
  | bit6E  -- BIT 6,E
  | bit6H  -- BIT 6,H
  | bit6L  -- BIT 6,L
  | bit6AtHl  -- BIT 6,(HL)
  | bit6A  -- BIT 6,A
  | bit7B  -- BIT 7,B
  | bit7C  -- BIT 7,C
  | bit7D  -- BIT 7,D
  | bit7E  -- BIT 7,E
  | bit7H  -- BIT 7,H
  | bit7L  -- BIT 7,L
  | bit7AtHl  -- BIT 7,(HL)
  | bit7A  -- BIT 7,A
  | res0B  -- RES 0,B
  | res0C  -- RES 0,C
  | res0D  -- RES 0,D
  | res0E  -- RES 0,E
  | res0H  -- RES 0,H
  | res0L  -- RES 0,L
  | res0AtHl  -- RES 0,(HL)
  | res0A  -- RES 0,A
  | res1B  -- RES 1,B
  | res1C  -- RES 1,C
  | res1D  -- RES 1,D
  | res1E  -- RES 1,E
  | res1H  -- RES 1,H
  | res1L  -- RES 1,L
  | res1AtHl  -- RES 1,(HL)
  | res1A  -- RES 1,A
  | res2B  -- RES 2,B
  | res2C  -- RES 2,C
  | res2D  -- RES 2,D
  | res2E  -- RES 2,E
  | res2H  -- RES 2,H
  | res2L  -- RES 2,L
  | res2AtHl  -- RES 2,(HL)
  | res2A  -- RES 2,A
  | res3B  -- RES 3,B
  | res3C  -- RES 3,C
  | res3D  -- RES 3,D
  | res3E  -- RES 3,E
  | res3H  -- RES 3,H
  | res3L  -- RES 3,L
  | res3AtHl  -- RES 3,(HL)
  | res3A  -- RES 3,A
  | res4B  -- RES 4,B
  | res4C  -- RES 4,C
  | res4D  -- RES 4,D
  | res4E  -- RES 4,E
  | res4H  -- RES 4,H
  | res4L  -- RES 4,L
  | res4AtHl  -- RES 4,(HL)
  | res4A  -- RES 4,A
  | res5B  -- RES 5,B
  | res5C  -- RES 5,C
  | res5D  -- RES 5,D
  | res5E  -- RES 5,E
  | res5H  -- RES 5,H
  | res5L  -- RES 5,L
  | res5AtHl  -- RES 5,(HL)
  | res5A  -- RES 5,A
  | res6B  -- RES 6,B
  | res6C  -- RES 6,C
  | res6D  -- RES 6,D
  | res6E  -- RES 6,E
  | res6H  -- RES 6,H
  | res6L  -- RES 6,L
  | res6AtHl  -- RES 6,(HL)
  | res6A  -- RES 6,A
  | res7B  -- RES 7,B
  | res7C  -- RES 7,C
  | res7D  -- RES 7,D
  | res7E  -- RES 7,E
  | res7H  -- RES 7,H
  | res7L  -- RES 7,L
  | res7AtHl  -- RES 7,(HL)
  | res7A  -- RES 7,A
  | set0B  -- SET 0,B
  | set0C  -- SET 0,C
  | set0D  -- SET 0,D
  | set0E  -- SET 0,E
  | set0H  -- SET 0,H
  | set0L  -- SET 0,L
  | set0AtHl  -- SET 0,(HL)
  | set0A  -- SET 0,A
  | set1B  -- SET 1,B
  | set1C  -- SET 1,C
  | set1D  -- SET 1,D
  | set1E  -- SET 1,E
  | set1H  -- SET 1,H
  | set1L  -- SET 1,L
  | set1AtHl  -- SET 1,(HL)
  | set1A  -- SET 1,A
  | set2B  -- SET 2,B
  | set2C  -- SET 2,C
  | set2D  -- SET 2,D
  | set2E  -- SET 2,E
  | set2H  -- SET 2,H
  | set2L  -- SET 2,L
  | set2AtHl  -- SET 2,(HL)
  | set2A  -- SET 2,A
  | set3B  -- SET 3,B
  | set3C  -- SET 3,C
  | set3D  -- SET 3,D
  | set3E  -- SET 3,E
  | set3H  -- SET 3,H
  | set3L  -- SET 3,L
  | set3AtHl  -- SET 3,(HL)
  | set3A  -- SET 3,A
  | set4B  -- SET 4,B
  | set4C  -- SET 4,C
  | set4D  -- SET 4,D
  | set4E  -- SET 4,E
  | set4H  -- SET 4,H
  | set4L  -- SET 4,L
  | set4AtHl  -- SET 4,(HL)
  | set4A  -- SET 4,A
  | set5B  -- SET 5,B
  | set5C  -- SET 5,C
  | set5D  -- SET 5,D
  | set5E  -- SET 5,E
  | set5H  -- SET 5,H
  | set5L  -- SET 5,L
  | set5AtHl  -- SET 5,(HL)
  | set5A  -- SET 5,A
  | set6B  -- SET 6,B
  | set6C  -- SET 6,C
  | set6D  -- SET 6,D
  | set6E  -- SET 6,E
  | set6H  -- SET 6,H
  | set6L  -- SET 6,L
  | set6AtHl  -- SET 6,(HL)
  | set6A  -- SET 6,A
  | set7B  -- SET 7,B
  | set7C  -- SET 7,C
  | set7D  -- SET 7,D
  | set7E  -- SET 7,E
  | set7H  -- SET 7,H
  | set7L  -- SET 7,L
  | set7AtHl  -- SET 7,(HL)
  | set7A  -- SET 7,A
  | nopStar (op : Byte)  -- NOP*
  | inBAtC  -- IN B,(C)
  | outAtCB  -- OUT (C),B
  | sbcHlBc  -- SBC HL,BC
  | ldAtNnBc (nn : Word)  -- LD (nn),BC
  | neg (y : BitVec 3)  -- NEG
  | retn (y : BitVec 3)  -- RETN
  | im0 (y : BitVec 3)  -- IM 0
  | ldIA  -- LD I,A
  | inCAtC  -- IN C,(C)
  | outAtCC  -- OUT (C),C
  | adcHlBc  -- ADC HL,BC
  | ldBcAtNn (nn : Word)  -- LD BC,(nn)
  | reti  -- RETI
  | ldRA  -- LD R,A
  | inDAtC  -- IN D,(C)
  | outAtCD  -- OUT (C),D
  | sbcHlDe  -- SBC HL,DE
  | ldAtNnDe (nn : Word)  -- LD (nn),DE
  | im1 (y : BitVec 3)  -- IM 1
  | ldAI  -- LD A,I
  | inEAtC  -- IN E,(C)
  | outAtCE  -- OUT (C),E
  | adcHlDe  -- ADC HL,DE
  | ldDeAtNn (nn : Word)  -- LD DE,(nn)
  | im2 (y : BitVec 3)  -- IM 2
  | ldAR  -- LD A,R
  | inHAtC  -- IN H,(C)
  | outAtCH  -- OUT (C),H
  | sbcHlHl  -- SBC HL,HL
  | ldAtNnHlEd (nn : Word)  -- LD (nn),HL
  | rrd  -- RRD
  | inLAtC  -- IN L,(C)
  | outAtCL  -- OUT (C),L
  | adcHlHl  -- ADC HL,HL
  | ldHlAtNnEd (nn : Word)  -- LD HL,(nn)
  | rld  -- RLD
  | inFAtC  -- IN F,(C)
  | outAtC0  -- OUT (C),0
  | sbcHlSp  -- SBC HL,SP
  | ldAtNnSp (nn : Word)  -- LD (nn),SP
  | inAAtC  -- IN A,(C)
  | outAtCA  -- OUT (C),A
  | adcHlSp  -- ADC HL,SP
  | ldSpAtNn (nn : Word)  -- LD SP,(nn)
  | ldi  -- LDI
  | cpi  -- CPI
  | ini  -- INI
  | outi  -- OUTI
  | ldd  -- LDD
  | cpd  -- CPD
  | ind  -- IND
  | outd  -- OUTD
  | ldir  -- LDIR
  | cpir  -- CPIR
  | inir  -- INIR
  | otir  -- OTIR
  | lddr  -- LDDR
  | cpdr  -- CPDR
  | indr  -- INDR
  | otdr  -- OTDR
  | ignoredNop (ii : Idx)  -- (index prefix ignored) NOP
  | ignoredLdBcNn (ii : Idx) (nn : Word)  -- (index prefix ignored) LD BC,nn
  | ignoredLdAtBcA (ii : Idx)  -- (index prefix ignored) LD (BC),A
  | ignoredIncBc (ii : Idx)  -- (index prefix ignored) INC BC
  | ignoredIncB (ii : Idx)  -- (index prefix ignored) INC B
  | ignoredDecB (ii : Idx)  -- (index prefix ignored) DEC B
  | ignoredLdBN (ii : Idx) (n : Byte)  -- (index prefix ignored) LD B,n
  | ignoredRlca (ii : Idx)  -- (index prefix ignored) RLCA
  | ignoredExAfAf (ii : Idx)  -- (index prefix ignored) EX AF,AF'
  | addIdxBc (ii : Idx)  -- ADD ii,BC
  | ignoredLdAAtBc (ii : Idx)  -- (index prefix ignored) LD A,(BC)
  | ignoredDecBc (ii : Idx)  -- (index prefix ignored) DEC BC
  | ignoredIncC (ii : Idx)  -- (index prefix ignored) INC C
  | ignoredDecC (ii : Idx)  -- (index prefix ignored) DEC C
  | ignoredLdCN (ii : Idx) (n : Byte)  -- (index prefix ignored) LD C,n
  | ignoredRrca (ii : Idx)  -- (index prefix ignored) RRCA
  | ignoredDjnzE (ii : Idx) (e : Byte)  -- (index prefix ignored) DJNZ e
  | ignoredLdDeNn (ii : Idx) (nn : Word)  -- (index prefix ignored) LD DE,nn
  | ignoredLdAtDeA (ii : Idx)  -- (index prefix ignored) LD (DE),A
  | ignoredIncDe (ii : Idx)  -- (index prefix ignored) INC DE
  | ignoredIncD (ii : Idx)  -- (index prefix ignored) INC D
  | ignoredDecD (ii : Idx)  -- (index prefix ignored) DEC D
  | ignoredLdDN (ii : Idx) (n : Byte)  -- (index prefix ignored) LD D,n
  | ignoredRla (ii : Idx)  -- (index prefix ignored) RLA
  | ignoredJrE (ii : Idx) (e : Byte)  -- (index prefix ignored) JR e
  | addIdxDe (ii : Idx)  -- ADD ii,DE
  | ignoredLdAAtDe (ii : Idx)  -- (index prefix ignored) LD A,(DE)
  | ignoredDecDe (ii : Idx)  -- (index prefix ignored) DEC DE
  | ignoredIncE (ii : Idx)  -- (index prefix ignored) INC E
  | ignoredDecE (ii : Idx)  -- (index prefix ignored) DEC E
  | ignoredLdEN (ii : Idx) (n : Byte)  -- (index prefix ignored) LD E,n
  | ignoredRra (ii : Idx)  -- (index prefix ignored) RRA
  | ignoredJrNzE (ii : Idx) (e : Byte)  -- (index prefix ignored) JR NZ,e
  | ldIdxNn (ii : Idx) (nn : Word)  -- LD ii,nn
  | ldAtNnIdx (ii : Idx) (nn : Word)  -- LD (nn),ii
  | incIdx (ii : Idx)  -- INC ii
  | incIdxH (ii : Idx)  -- INC iiH
  | decIdxH (ii : Idx)  -- DEC iiH
  | ldIdxHN (ii : Idx) (n : Byte)  -- LD iiH,n
  | ignoredDaa (ii : Idx)  -- (index prefix ignored) DAA
  | ignoredJrZE (ii : Idx) (e : Byte)  -- (index prefix ignored) JR Z,e
  | addIdxIdx (ii : Idx)  -- ADD ii,ii
  | ldIdxAtNn (ii : Idx) (nn : Word)  -- LD ii,(nn)
  | decIdx (ii : Idx)  -- DEC ii
  | incIdxL (ii : Idx)  -- INC iiL
  | decIdxL (ii : Idx)  -- DEC iiL
  | ldIdxLN (ii : Idx) (n : Byte)  -- LD iiL,n
  | ignoredCpl (ii : Idx)  -- (index prefix ignored) CPL
  | ignoredJrNcE (ii : Idx) (e : Byte)  -- (index prefix ignored) JR NC,e
  | ignoredLdSpNn (ii : Idx) (nn : Word)  -- (index prefix ignored) LD SP,nn
  | ignoredLdAtNnA (ii : Idx) (nn : Word)  -- (index prefix ignored) LD (nn),A
  | ignoredIncSp (ii : Idx)  -- (index prefix ignored) INC SP
  | incAtIdx (ii : Idx) (d : Byte)  -- INC (ii+d)
  | decAtIdx (ii : Idx) (d : Byte)  -- DEC (ii+d)
  | ldAtIdxN (ii : Idx) (d n : Byte)  -- LD (ii+d),n
  | ignoredScf (ii : Idx)  -- (index prefix ignored) SCF
  | ignoredJrCE (ii : Idx) (e : Byte)  -- (index prefix ignored) JR C,e
  | addIdxSp (ii : Idx)  -- ADD ii,SP
  | ignoredLdAAtNn (ii : Idx) (nn : Word)  -- (index prefix ignored) LD A,(nn)
  | ignoredDecSp (ii : Idx)  -- (index prefix ignored) DEC SP
  | ignoredIncA (ii : Idx)  -- (index prefix ignored) INC A
  | ignoredDecA (ii : Idx)  -- (index prefix ignored) DEC A
  | ignoredLdAN (ii : Idx) (n : Byte)  -- (index prefix ignored) LD A,n
  | ignoredCcf (ii : Idx)  -- (index prefix ignored) CCF
  | ignoredLdBB (ii : Idx)  -- (index prefix ignored) LD B,B
  | ignoredLdBC (ii : Idx)  -- (index prefix ignored) LD B,C
  | ignoredLdBD (ii : Idx)  -- (index prefix ignored) LD B,D
  | ignoredLdBE (ii : Idx)  -- (index prefix ignored) LD B,E
  | ldBIdxH (ii : Idx)  -- LD B,iiH
  | ldBIdxL (ii : Idx)  -- LD B,iiL
  | ldBAtIdx (ii : Idx) (d : Byte)  -- LD B,(ii+d)
  | ignoredLdBA (ii : Idx)  -- (index prefix ignored) LD B,A
  | ignoredLdCB (ii : Idx)  -- (index prefix ignored) LD C,B
  | ignoredLdCC (ii : Idx)  -- (index prefix ignored) LD C,C
  | ignoredLdCD (ii : Idx)  -- (index prefix ignored) LD C,D
  | ignoredLdCE (ii : Idx)  -- (index prefix ignored) LD C,E
  | ldCIdxH (ii : Idx)  -- LD C,iiH
  | ldCIdxL (ii : Idx)  -- LD C,iiL
  | ldCAtIdx (ii : Idx) (d : Byte)  -- LD C,(ii+d)
  | ignoredLdCA (ii : Idx)  -- (index prefix ignored) LD C,A
  | ignoredLdDB (ii : Idx)  -- (index prefix ignored) LD D,B
  | ignoredLdDC (ii : Idx)  -- (index prefix ignored) LD D,C
  | ignoredLdDD (ii : Idx)  -- (index prefix ignored) LD D,D
  | ignoredLdDE (ii : Idx)  -- (index prefix ignored) LD D,E
  | ldDIdxH (ii : Idx)  -- LD D,iiH
  | ldDIdxL (ii : Idx)  -- LD D,iiL
  | ldDAtIdx (ii : Idx) (d : Byte)  -- LD D,(ii+d)
  | ignoredLdDA (ii : Idx)  -- (index prefix ignored) LD D,A
  | ignoredLdEB (ii : Idx)  -- (index prefix ignored) LD E,B
  | ignoredLdEC (ii : Idx)  -- (index prefix ignored) LD E,C
  | ignoredLdED (ii : Idx)  -- (index prefix ignored) LD E,D
  | ignoredLdEE (ii : Idx)  -- (index prefix ignored) LD E,E
  | ldEIdxH (ii : Idx)  -- LD E,iiH
  | ldEIdxL (ii : Idx)  -- LD E,iiL
  | ldEAtIdx (ii : Idx) (d : Byte)  -- LD E,(ii+d)
  | ignoredLdEA (ii : Idx)  -- (index prefix ignored) LD E,A
  | ldIdxHB (ii : Idx)  -- LD iiH,B
  | ldIdxHC (ii : Idx)  -- LD iiH,C
  | ldIdxHD (ii : Idx)  -- LD iiH,D
  | ldIdxHE (ii : Idx)  -- LD iiH,E
  | ldIdxHIdxH (ii : Idx)  -- LD iiH,iiH
  | ldIdxHIdxL (ii : Idx)  -- LD iiH,iiL
  | ldHAtIdx (ii : Idx) (d : Byte)  -- LD H,(ii+d)
  | ldIdxHA (ii : Idx)  -- LD iiH,A
  | ldIdxLB (ii : Idx)  -- LD iiL,B
  | ldIdxLC (ii : Idx)  -- LD iiL,C
  | ldIdxLD (ii : Idx)  -- LD iiL,D
  | ldIdxLE (ii : Idx)  -- LD iiL,E
  | ldIdxLIdxH (ii : Idx)  -- LD iiL,iiH
  | ldIdxLIdxL (ii : Idx)  -- LD iiL,iiL
  | ldLAtIdx (ii : Idx) (d : Byte)  -- LD L,(ii+d)
  | ldIdxLA (ii : Idx)  -- LD iiL,A
  | ldAtIdxB (ii : Idx) (d : Byte)  -- LD (ii+d),B
  | ldAtIdxC (ii : Idx) (d : Byte)  -- LD (ii+d),C
  | ldAtIdxD (ii : Idx) (d : Byte)  -- LD (ii+d),D
  | ldAtIdxE (ii : Idx) (d : Byte)  -- LD (ii+d),E
  | ldAtIdxH (ii : Idx) (d : Byte)  -- LD (ii+d),H
  | ldAtIdxL (ii : Idx) (d : Byte)  -- LD (ii+d),L
  | ignoredHalt (ii : Idx)  -- (index prefix ignored) HALT
  | ldAtIdxA (ii : Idx) (d : Byte)  -- LD (ii+d),A
  | ignoredLdAB (ii : Idx)  -- (index prefix ignored) LD A,B
  | ignoredLdAC (ii : Idx)  -- (index prefix ignored) LD A,C
  | ignoredLdAD (ii : Idx)  -- (index prefix ignored) LD A,D
  | ignoredLdAE (ii : Idx)  -- (index prefix ignored) LD A,E
  | ldAIdxH (ii : Idx)  -- LD A,iiH
  | ldAIdxL (ii : Idx)  -- LD A,iiL
  | ldAAtIdx (ii : Idx) (d : Byte)  -- LD A,(ii+d)
  | ignoredLdAA (ii : Idx)  -- (index prefix ignored) LD A,A
  | ignoredAddAB (ii : Idx)  -- (index prefix ignored) ADD A,B
  | ignoredAddAC (ii : Idx)  -- (index prefix ignored) ADD A,C
  | ignoredAddAD (ii : Idx)  -- (index prefix ignored) ADD A,D
  | ignoredAddAE (ii : Idx)  -- (index prefix ignored) ADD A,E
  | addAIdxH (ii : Idx)  -- ADD A,iiH
  | addAIdxL (ii : Idx)  -- ADD A,iiL
  | addAAtIdx (ii : Idx) (d : Byte)  -- ADD A,(ii+d)
  | ignoredAddAA (ii : Idx)  -- (index prefix ignored) ADD A,A
  | ignoredAdcAB (ii : Idx)  -- (index prefix ignored) ADC A,B
  | ignoredAdcAC (ii : Idx)  -- (index prefix ignored) ADC A,C
  | ignoredAdcAD (ii : Idx)  -- (index prefix ignored) ADC A,D
  | ignoredAdcAE (ii : Idx)  -- (index prefix ignored) ADC A,E
  | adcAIdxH (ii : Idx)  -- ADC A,iiH
  | adcAIdxL (ii : Idx)  -- ADC A,iiL
  | adcAAtIdx (ii : Idx) (d : Byte)  -- ADC A,(ii+d)
  | ignoredAdcAA (ii : Idx)  -- (index prefix ignored) ADC A,A
  | ignoredSubB (ii : Idx)  -- (index prefix ignored) SUB B
  | ignoredSubC (ii : Idx)  -- (index prefix ignored) SUB C
  | ignoredSubD (ii : Idx)  -- (index prefix ignored) SUB D
  | ignoredSubE (ii : Idx)  -- (index prefix ignored) SUB E
  | subIdxH (ii : Idx)  -- SUB iiH
  | subIdxL (ii : Idx)  -- SUB iiL
  | subAtIdx (ii : Idx) (d : Byte)  -- SUB (ii+d)
  | ignoredSubA (ii : Idx)  -- (index prefix ignored) SUB A
  | ignoredSbcAB (ii : Idx)  -- (index prefix ignored) SBC A,B
  | ignoredSbcAC (ii : Idx)  -- (index prefix ignored) SBC A,C
  | ignoredSbcAD (ii : Idx)  -- (index prefix ignored) SBC A,D
  | ignoredSbcAE (ii : Idx)  -- (index prefix ignored) SBC A,E
  | sbcAIdxH (ii : Idx)  -- SBC A,iiH
  | sbcAIdxL (ii : Idx)  -- SBC A,iiL
  | sbcAAtIdx (ii : Idx) (d : Byte)  -- SBC A,(ii+d)
  | ignoredSbcAA (ii : Idx)  -- (index prefix ignored) SBC A,A
  | ignoredAndB (ii : Idx)  -- (index prefix ignored) AND B
  | ignoredAndC (ii : Idx)  -- (index prefix ignored) AND C
  | ignoredAndD (ii : Idx)  -- (index prefix ignored) AND D
  | ignoredAndE (ii : Idx)  -- (index prefix ignored) AND E
  | andIdxH (ii : Idx)  -- AND iiH
  | andIdxL (ii : Idx)  -- AND iiL
  | andAtIdx (ii : Idx) (d : Byte)  -- AND (ii+d)
  | ignoredAndA (ii : Idx)  -- (index prefix ignored) AND A
  | ignoredXorB (ii : Idx)  -- (index prefix ignored) XOR B
  | ignoredXorC (ii : Idx)  -- (index prefix ignored) XOR C
  | ignoredXorD (ii : Idx)  -- (index prefix ignored) XOR D
  | ignoredXorE (ii : Idx)  -- (index prefix ignored) XOR E
  | xorIdxH (ii : Idx)  -- XOR iiH
  | xorIdxL (ii : Idx)  -- XOR iiL
  | xorAtIdx (ii : Idx) (d : Byte)  -- XOR (ii+d)
  | ignoredXorA (ii : Idx)  -- (index prefix ignored) XOR A
  | ignoredOrB (ii : Idx)  -- (index prefix ignored) OR B
  | ignoredOrC (ii : Idx)  -- (index prefix ignored) OR C
  | ignoredOrD (ii : Idx)  -- (index prefix ignored) OR D
  | ignoredOrE (ii : Idx)  -- (index prefix ignored) OR E
  | orIdxH (ii : Idx)  -- OR iiH
  | orIdxL (ii : Idx)  -- OR iiL
  | orAtIdx (ii : Idx) (d : Byte)  -- OR (ii+d)
  | ignoredOrA (ii : Idx)  -- (index prefix ignored) OR A
  | ignoredCpB (ii : Idx)  -- (index prefix ignored) CP B
  | ignoredCpC (ii : Idx)  -- (index prefix ignored) CP C
  | ignoredCpD (ii : Idx)  -- (index prefix ignored) CP D
  | ignoredCpE (ii : Idx)  -- (index prefix ignored) CP E
  | cpIdxH (ii : Idx)  -- CP iiH
  | cpIdxL (ii : Idx)  -- CP iiL
  | cpAtIdx (ii : Idx) (d : Byte)  -- CP (ii+d)
  | ignoredCpA (ii : Idx)  -- (index prefix ignored) CP A
  | ignoredRetNz (ii : Idx)  -- (index prefix ignored) RET NZ
  | ignoredPopBc (ii : Idx)  -- (index prefix ignored) POP BC
  | ignoredJpNzNn (ii : Idx) (nn : Word)  -- (index prefix ignored) JP NZ,nn
  | ignoredJpNn (ii : Idx) (nn : Word)  -- (index prefix ignored) JP nn
  | ignoredCallNzNn (ii : Idx) (nn : Word)  -- (index prefix ignored) CALL NZ,nn
  | ignoredPushBc (ii : Idx)  -- (index prefix ignored) PUSH BC
  | ignoredAddAN (ii : Idx) (n : Byte)  -- (index prefix ignored) ADD A,n
  | ignoredRst00 (ii : Idx)  -- (index prefix ignored) RST 00H
  | ignoredRetZ (ii : Idx)  -- (index prefix ignored) RET Z
  | ignoredRet (ii : Idx)  -- (index prefix ignored) RET
  | ignoredJpZNn (ii : Idx) (nn : Word)  -- (index prefix ignored) JP Z,nn
  | ignoredCallZNn (ii : Idx) (nn : Word)  -- (index prefix ignored) CALL Z,nn
  | ignoredCallNn (ii : Idx) (nn : Word)  -- (index prefix ignored) CALL nn
  | ignoredAdcAN (ii : Idx) (n : Byte)  -- (index prefix ignored) ADC A,n
  | ignoredRst08 (ii : Idx)  -- (index prefix ignored) RST 08H
  | ignoredRetNc (ii : Idx)  -- (index prefix ignored) RET NC
  | ignoredPopDe (ii : Idx)  -- (index prefix ignored) POP DE
  | ignoredJpNcNn (ii : Idx) (nn : Word)  -- (index prefix ignored) JP NC,nn
  | ignoredOutAtNA (ii : Idx) (n : Byte)  -- (index prefix ignored) OUT (n),A
  | ignoredCallNcNn (ii : Idx) (nn : Word)  -- (index prefix ignored) CALL NC,nn
  | ignoredPushDe (ii : Idx)  -- (index prefix ignored) PUSH DE
  | ignoredSubN (ii : Idx) (n : Byte)  -- (index prefix ignored) SUB n
  | ignoredRst10 (ii : Idx)  -- (index prefix ignored) RST 10H
  | ignoredRetC (ii : Idx)  -- (index prefix ignored) RET C
  | ignoredExx (ii : Idx)  -- (index prefix ignored) EXX
  | ignoredJpCNn (ii : Idx) (nn : Word)  -- (index prefix ignored) JP C,nn
  | ignoredInAAtN (ii : Idx) (n : Byte)  -- (index prefix ignored) IN A,(n)
  | ignoredCallCNn (ii : Idx) (nn : Word)  -- (index prefix ignored) CALL C,nn
  | redundantPrefix (first second : Idx)  -- (redundant index prefix)
  | ignoredSbcAN (ii : Idx) (n : Byte)  -- (index prefix ignored) SBC A,n
  | ignoredRst18 (ii : Idx)  -- (index prefix ignored) RST 18H
  | ignoredRetPo (ii : Idx)  -- (index prefix ignored) RET PO
  | popIdx (ii : Idx)  -- POP ii
  | ignoredJpPoNn (ii : Idx) (nn : Word)  -- (index prefix ignored) JP PO,nn
  | exAtSpIdx (ii : Idx)  -- EX (SP),ii
  | ignoredCallPoNn (ii : Idx) (nn : Word)  -- (index prefix ignored) CALL PO,nn
  | pushIdx (ii : Idx)  -- PUSH ii
  | ignoredAndN (ii : Idx) (n : Byte)  -- (index prefix ignored) AND n
  | ignoredRst20 (ii : Idx)  -- (index prefix ignored) RST 20H
  | ignoredRetPe (ii : Idx)  -- (index prefix ignored) RET PE
  | jpAtIdx (ii : Idx)  -- JP (ii)
  | ignoredJpPeNn (ii : Idx) (nn : Word)  -- (index prefix ignored) JP PE,nn
  | ignoredExDeHl (ii : Idx)  -- (index prefix ignored) EX DE,HL
  | ignoredCallPeNn (ii : Idx) (nn : Word)  -- (index prefix ignored) CALL PE,nn
  | ignoredEd (ii : Idx) (o : EdOp)  -- (index prefix ignored) + ED instruction
  | ignoredXorN (ii : Idx) (n : Byte)  -- (index prefix ignored) XOR n
  | ignoredRst28 (ii : Idx)  -- (index prefix ignored) RST 28H
  | ignoredRetP (ii : Idx)  -- (index prefix ignored) RET P
  | ignoredPopAf (ii : Idx)  -- (index prefix ignored) POP AF
  | ignoredJpPNn (ii : Idx) (nn : Word)  -- (index prefix ignored) JP P,nn
  | ignoredDi (ii : Idx)  -- (index prefix ignored) DI
  | ignoredCallPNn (ii : Idx) (nn : Word)  -- (index prefix ignored) CALL P,nn
  | ignoredPushAf (ii : Idx)  -- (index prefix ignored) PUSH AF
  | ignoredOrN (ii : Idx) (n : Byte)  -- (index prefix ignored) OR n
  | ignoredRst30 (ii : Idx)  -- (index prefix ignored) RST 30H
  | ignoredRetM (ii : Idx)  -- (index prefix ignored) RET M
  | ldSpIdx (ii : Idx)  -- LD SP,ii
  | ignoredJpMNn (ii : Idx) (nn : Word)  -- (index prefix ignored) JP M,nn
  | ignoredEi (ii : Idx)  -- (index prefix ignored) EI
  | ignoredCallMNn (ii : Idx) (nn : Word)  -- (index prefix ignored) CALL M,nn
  | ignoredCpN (ii : Idx) (n : Byte)  -- (index prefix ignored) CP n
  | ignoredRst38 (ii : Idx)  -- (index prefix ignored) RST 38H
  | rlcAtIdxB (ii : Idx) (d : Byte)  -- RLC (ii+d),B
  | rlcAtIdxC (ii : Idx) (d : Byte)  -- RLC (ii+d),C
  | rlcAtIdxD (ii : Idx) (d : Byte)  -- RLC (ii+d),D
  | rlcAtIdxE (ii : Idx) (d : Byte)  -- RLC (ii+d),E
  | rlcAtIdxH (ii : Idx) (d : Byte)  -- RLC (ii+d),H
  | rlcAtIdxL (ii : Idx) (d : Byte)  -- RLC (ii+d),L
  | rlcAtIdx (ii : Idx) (d : Byte)  -- RLC (ii+d)
  | rlcAtIdxA (ii : Idx) (d : Byte)  -- RLC (ii+d),A
  | rrcAtIdxB (ii : Idx) (d : Byte)  -- RRC (ii+d),B
  | rrcAtIdxC (ii : Idx) (d : Byte)  -- RRC (ii+d),C
  | rrcAtIdxD (ii : Idx) (d : Byte)  -- RRC (ii+d),D
  | rrcAtIdxE (ii : Idx) (d : Byte)  -- RRC (ii+d),E
  | rrcAtIdxH (ii : Idx) (d : Byte)  -- RRC (ii+d),H
  | rrcAtIdxL (ii : Idx) (d : Byte)  -- RRC (ii+d),L
  | rrcAtIdx (ii : Idx) (d : Byte)  -- RRC (ii+d)
  | rrcAtIdxA (ii : Idx) (d : Byte)  -- RRC (ii+d),A
  | rlAtIdxB (ii : Idx) (d : Byte)  -- RL (ii+d),B
  | rlAtIdxC (ii : Idx) (d : Byte)  -- RL (ii+d),C
  | rlAtIdxD (ii : Idx) (d : Byte)  -- RL (ii+d),D
  | rlAtIdxE (ii : Idx) (d : Byte)  -- RL (ii+d),E
  | rlAtIdxH (ii : Idx) (d : Byte)  -- RL (ii+d),H
  | rlAtIdxL (ii : Idx) (d : Byte)  -- RL (ii+d),L
  | rlAtIdx (ii : Idx) (d : Byte)  -- RL (ii+d)
  | rlAtIdxA (ii : Idx) (d : Byte)  -- RL (ii+d),A
  | rrAtIdxB (ii : Idx) (d : Byte)  -- RR (ii+d),B
  | rrAtIdxC (ii : Idx) (d : Byte)  -- RR (ii+d),C
  | rrAtIdxD (ii : Idx) (d : Byte)  -- RR (ii+d),D
  | rrAtIdxE (ii : Idx) (d : Byte)  -- RR (ii+d),E
  | rrAtIdxH (ii : Idx) (d : Byte)  -- RR (ii+d),H
  | rrAtIdxL (ii : Idx) (d : Byte)  -- RR (ii+d),L
  | rrAtIdx (ii : Idx) (d : Byte)  -- RR (ii+d)
  | rrAtIdxA (ii : Idx) (d : Byte)  -- RR (ii+d),A
  | slaAtIdxB (ii : Idx) (d : Byte)  -- SLA (ii+d),B
  | slaAtIdxC (ii : Idx) (d : Byte)  -- SLA (ii+d),C
  | slaAtIdxD (ii : Idx) (d : Byte)  -- SLA (ii+d),D
  | slaAtIdxE (ii : Idx) (d : Byte)  -- SLA (ii+d),E
  | slaAtIdxH (ii : Idx) (d : Byte)  -- SLA (ii+d),H
  | slaAtIdxL (ii : Idx) (d : Byte)  -- SLA (ii+d),L
  | slaAtIdx (ii : Idx) (d : Byte)  -- SLA (ii+d)
  | slaAtIdxA (ii : Idx) (d : Byte)  -- SLA (ii+d),A
  | sraAtIdxB (ii : Idx) (d : Byte)  -- SRA (ii+d),B
  | sraAtIdxC (ii : Idx) (d : Byte)  -- SRA (ii+d),C
  | sraAtIdxD (ii : Idx) (d : Byte)  -- SRA (ii+d),D
  | sraAtIdxE (ii : Idx) (d : Byte)  -- SRA (ii+d),E
  | sraAtIdxH (ii : Idx) (d : Byte)  -- SRA (ii+d),H
  | sraAtIdxL (ii : Idx) (d : Byte)  -- SRA (ii+d),L
  | sraAtIdx (ii : Idx) (d : Byte)  -- SRA (ii+d)
  | sraAtIdxA (ii : Idx) (d : Byte)  -- SRA (ii+d),A
  | sllAtIdxB (ii : Idx) (d : Byte)  -- SLL (ii+d),B
  | sllAtIdxC (ii : Idx) (d : Byte)  -- SLL (ii+d),C
  | sllAtIdxD (ii : Idx) (d : Byte)  -- SLL (ii+d),D
  | sllAtIdxE (ii : Idx) (d : Byte)  -- SLL (ii+d),E
  | sllAtIdxH (ii : Idx) (d : Byte)  -- SLL (ii+d),H
  | sllAtIdxL (ii : Idx) (d : Byte)  -- SLL (ii+d),L
  | sllAtIdx (ii : Idx) (d : Byte)  -- SLL (ii+d)
  | sllAtIdxA (ii : Idx) (d : Byte)  -- SLL (ii+d),A
  | srlAtIdxB (ii : Idx) (d : Byte)  -- SRL (ii+d),B
  | srlAtIdxC (ii : Idx) (d : Byte)  -- SRL (ii+d),C
  | srlAtIdxD (ii : Idx) (d : Byte)  -- SRL (ii+d),D
  | srlAtIdxE (ii : Idx) (d : Byte)  -- SRL (ii+d),E
  | srlAtIdxH (ii : Idx) (d : Byte)  -- SRL (ii+d),H
  | srlAtIdxL (ii : Idx) (d : Byte)  -- SRL (ii+d),L
  | srlAtIdx (ii : Idx) (d : Byte)  -- SRL (ii+d)
  | srlAtIdxA (ii : Idx) (d : Byte)  -- SRL (ii+d),A
  | bit0AtIdx (ii : Idx) (d : Byte) (z : BitVec 3)  -- BIT 0,(ii+d)
  | bit1AtIdx (ii : Idx) (d : Byte) (z : BitVec 3)  -- BIT 1,(ii+d)
  | bit2AtIdx (ii : Idx) (d : Byte) (z : BitVec 3)  -- BIT 2,(ii+d)
  | bit3AtIdx (ii : Idx) (d : Byte) (z : BitVec 3)  -- BIT 3,(ii+d)
  | bit4AtIdx (ii : Idx) (d : Byte) (z : BitVec 3)  -- BIT 4,(ii+d)
  | bit5AtIdx (ii : Idx) (d : Byte) (z : BitVec 3)  -- BIT 5,(ii+d)
  | bit6AtIdx (ii : Idx) (d : Byte) (z : BitVec 3)  -- BIT 6,(ii+d)
  | bit7AtIdx (ii : Idx) (d : Byte) (z : BitVec 3)  -- BIT 7,(ii+d)
  | res0AtIdxB (ii : Idx) (d : Byte)  -- RES 0,(ii+d),B
  | res0AtIdxC (ii : Idx) (d : Byte)  -- RES 0,(ii+d),C
  | res0AtIdxD (ii : Idx) (d : Byte)  -- RES 0,(ii+d),D
  | res0AtIdxE (ii : Idx) (d : Byte)  -- RES 0,(ii+d),E
  | res0AtIdxH (ii : Idx) (d : Byte)  -- RES 0,(ii+d),H
  | res0AtIdxL (ii : Idx) (d : Byte)  -- RES 0,(ii+d),L
  | res0AtIdx (ii : Idx) (d : Byte)  -- RES 0,(ii+d)
  | res0AtIdxA (ii : Idx) (d : Byte)  -- RES 0,(ii+d),A
  | res1AtIdxB (ii : Idx) (d : Byte)  -- RES 1,(ii+d),B
  | res1AtIdxC (ii : Idx) (d : Byte)  -- RES 1,(ii+d),C
  | res1AtIdxD (ii : Idx) (d : Byte)  -- RES 1,(ii+d),D
  | res1AtIdxE (ii : Idx) (d : Byte)  -- RES 1,(ii+d),E
  | res1AtIdxH (ii : Idx) (d : Byte)  -- RES 1,(ii+d),H
  | res1AtIdxL (ii : Idx) (d : Byte)  -- RES 1,(ii+d),L
  | res1AtIdx (ii : Idx) (d : Byte)  -- RES 1,(ii+d)
  | res1AtIdxA (ii : Idx) (d : Byte)  -- RES 1,(ii+d),A
  | res2AtIdxB (ii : Idx) (d : Byte)  -- RES 2,(ii+d),B
  | res2AtIdxC (ii : Idx) (d : Byte)  -- RES 2,(ii+d),C
  | res2AtIdxD (ii : Idx) (d : Byte)  -- RES 2,(ii+d),D
  | res2AtIdxE (ii : Idx) (d : Byte)  -- RES 2,(ii+d),E
  | res2AtIdxH (ii : Idx) (d : Byte)  -- RES 2,(ii+d),H
  | res2AtIdxL (ii : Idx) (d : Byte)  -- RES 2,(ii+d),L
  | res2AtIdx (ii : Idx) (d : Byte)  -- RES 2,(ii+d)
  | res2AtIdxA (ii : Idx) (d : Byte)  -- RES 2,(ii+d),A
  | res3AtIdxB (ii : Idx) (d : Byte)  -- RES 3,(ii+d),B
  | res3AtIdxC (ii : Idx) (d : Byte)  -- RES 3,(ii+d),C
  | res3AtIdxD (ii : Idx) (d : Byte)  -- RES 3,(ii+d),D
  | res3AtIdxE (ii : Idx) (d : Byte)  -- RES 3,(ii+d),E
  | res3AtIdxH (ii : Idx) (d : Byte)  -- RES 3,(ii+d),H
  | res3AtIdxL (ii : Idx) (d : Byte)  -- RES 3,(ii+d),L
  | res3AtIdx (ii : Idx) (d : Byte)  -- RES 3,(ii+d)
  | res3AtIdxA (ii : Idx) (d : Byte)  -- RES 3,(ii+d),A
  | res4AtIdxB (ii : Idx) (d : Byte)  -- RES 4,(ii+d),B
  | res4AtIdxC (ii : Idx) (d : Byte)  -- RES 4,(ii+d),C
  | res4AtIdxD (ii : Idx) (d : Byte)  -- RES 4,(ii+d),D
  | res4AtIdxE (ii : Idx) (d : Byte)  -- RES 4,(ii+d),E
  | res4AtIdxH (ii : Idx) (d : Byte)  -- RES 4,(ii+d),H
  | res4AtIdxL (ii : Idx) (d : Byte)  -- RES 4,(ii+d),L
  | res4AtIdx (ii : Idx) (d : Byte)  -- RES 4,(ii+d)
  | res4AtIdxA (ii : Idx) (d : Byte)  -- RES 4,(ii+d),A
  | res5AtIdxB (ii : Idx) (d : Byte)  -- RES 5,(ii+d),B
  | res5AtIdxC (ii : Idx) (d : Byte)  -- RES 5,(ii+d),C
  | res5AtIdxD (ii : Idx) (d : Byte)  -- RES 5,(ii+d),D
  | res5AtIdxE (ii : Idx) (d : Byte)  -- RES 5,(ii+d),E
  | res5AtIdxH (ii : Idx) (d : Byte)  -- RES 5,(ii+d),H
  | res5AtIdxL (ii : Idx) (d : Byte)  -- RES 5,(ii+d),L
  | res5AtIdx (ii : Idx) (d : Byte)  -- RES 5,(ii+d)
  | res5AtIdxA (ii : Idx) (d : Byte)  -- RES 5,(ii+d),A
  | res6AtIdxB (ii : Idx) (d : Byte)  -- RES 6,(ii+d),B
  | res6AtIdxC (ii : Idx) (d : Byte)  -- RES 6,(ii+d),C
  | res6AtIdxD (ii : Idx) (d : Byte)  -- RES 6,(ii+d),D
  | res6AtIdxE (ii : Idx) (d : Byte)  -- RES 6,(ii+d),E
  | res6AtIdxH (ii : Idx) (d : Byte)  -- RES 6,(ii+d),H
  | res6AtIdxL (ii : Idx) (d : Byte)  -- RES 6,(ii+d),L
  | res6AtIdx (ii : Idx) (d : Byte)  -- RES 6,(ii+d)
  | res6AtIdxA (ii : Idx) (d : Byte)  -- RES 6,(ii+d),A
  | res7AtIdxB (ii : Idx) (d : Byte)  -- RES 7,(ii+d),B
  | res7AtIdxC (ii : Idx) (d : Byte)  -- RES 7,(ii+d),C
  | res7AtIdxD (ii : Idx) (d : Byte)  -- RES 7,(ii+d),D
  | res7AtIdxE (ii : Idx) (d : Byte)  -- RES 7,(ii+d),E
  | res7AtIdxH (ii : Idx) (d : Byte)  -- RES 7,(ii+d),H
  | res7AtIdxL (ii : Idx) (d : Byte)  -- RES 7,(ii+d),L
  | res7AtIdx (ii : Idx) (d : Byte)  -- RES 7,(ii+d)
  | res7AtIdxA (ii : Idx) (d : Byte)  -- RES 7,(ii+d),A
  | set0AtIdxB (ii : Idx) (d : Byte)  -- SET 0,(ii+d),B
  | set0AtIdxC (ii : Idx) (d : Byte)  -- SET 0,(ii+d),C
  | set0AtIdxD (ii : Idx) (d : Byte)  -- SET 0,(ii+d),D
  | set0AtIdxE (ii : Idx) (d : Byte)  -- SET 0,(ii+d),E
  | set0AtIdxH (ii : Idx) (d : Byte)  -- SET 0,(ii+d),H
  | set0AtIdxL (ii : Idx) (d : Byte)  -- SET 0,(ii+d),L
  | set0AtIdx (ii : Idx) (d : Byte)  -- SET 0,(ii+d)
  | set0AtIdxA (ii : Idx) (d : Byte)  -- SET 0,(ii+d),A
  | set1AtIdxB (ii : Idx) (d : Byte)  -- SET 1,(ii+d),B
  | set1AtIdxC (ii : Idx) (d : Byte)  -- SET 1,(ii+d),C
  | set1AtIdxD (ii : Idx) (d : Byte)  -- SET 1,(ii+d),D
  | set1AtIdxE (ii : Idx) (d : Byte)  -- SET 1,(ii+d),E
  | set1AtIdxH (ii : Idx) (d : Byte)  -- SET 1,(ii+d),H
  | set1AtIdxL (ii : Idx) (d : Byte)  -- SET 1,(ii+d),L
  | set1AtIdx (ii : Idx) (d : Byte)  -- SET 1,(ii+d)
  | set1AtIdxA (ii : Idx) (d : Byte)  -- SET 1,(ii+d),A
  | set2AtIdxB (ii : Idx) (d : Byte)  -- SET 2,(ii+d),B
  | set2AtIdxC (ii : Idx) (d : Byte)  -- SET 2,(ii+d),C
  | set2AtIdxD (ii : Idx) (d : Byte)  -- SET 2,(ii+d),D
  | set2AtIdxE (ii : Idx) (d : Byte)  -- SET 2,(ii+d),E
  | set2AtIdxH (ii : Idx) (d : Byte)  -- SET 2,(ii+d),H
  | set2AtIdxL (ii : Idx) (d : Byte)  -- SET 2,(ii+d),L
  | set2AtIdx (ii : Idx) (d : Byte)  -- SET 2,(ii+d)
  | set2AtIdxA (ii : Idx) (d : Byte)  -- SET 2,(ii+d),A
  | set3AtIdxB (ii : Idx) (d : Byte)  -- SET 3,(ii+d),B
  | set3AtIdxC (ii : Idx) (d : Byte)  -- SET 3,(ii+d),C
  | set3AtIdxD (ii : Idx) (d : Byte)  -- SET 3,(ii+d),D
  | set3AtIdxE (ii : Idx) (d : Byte)  -- SET 3,(ii+d),E
  | set3AtIdxH (ii : Idx) (d : Byte)  -- SET 3,(ii+d),H
  | set3AtIdxL (ii : Idx) (d : Byte)  -- SET 3,(ii+d),L
  | set3AtIdx (ii : Idx) (d : Byte)  -- SET 3,(ii+d)
  | set3AtIdxA (ii : Idx) (d : Byte)  -- SET 3,(ii+d),A
  | set4AtIdxB (ii : Idx) (d : Byte)  -- SET 4,(ii+d),B
  | set4AtIdxC (ii : Idx) (d : Byte)  -- SET 4,(ii+d),C
  | set4AtIdxD (ii : Idx) (d : Byte)  -- SET 4,(ii+d),D
  | set4AtIdxE (ii : Idx) (d : Byte)  -- SET 4,(ii+d),E
  | set4AtIdxH (ii : Idx) (d : Byte)  -- SET 4,(ii+d),H
  | set4AtIdxL (ii : Idx) (d : Byte)  -- SET 4,(ii+d),L
  | set4AtIdx (ii : Idx) (d : Byte)  -- SET 4,(ii+d)
  | set4AtIdxA (ii : Idx) (d : Byte)  -- SET 4,(ii+d),A
  | set5AtIdxB (ii : Idx) (d : Byte)  -- SET 5,(ii+d),B
  | set5AtIdxC (ii : Idx) (d : Byte)  -- SET 5,(ii+d),C
  | set5AtIdxD (ii : Idx) (d : Byte)  -- SET 5,(ii+d),D
  | set5AtIdxE (ii : Idx) (d : Byte)  -- SET 5,(ii+d),E
  | set5AtIdxH (ii : Idx) (d : Byte)  -- SET 5,(ii+d),H
  | set5AtIdxL (ii : Idx) (d : Byte)  -- SET 5,(ii+d),L
  | set5AtIdx (ii : Idx) (d : Byte)  -- SET 5,(ii+d)
  | set5AtIdxA (ii : Idx) (d : Byte)  -- SET 5,(ii+d),A
  | set6AtIdxB (ii : Idx) (d : Byte)  -- SET 6,(ii+d),B
  | set6AtIdxC (ii : Idx) (d : Byte)  -- SET 6,(ii+d),C
  | set6AtIdxD (ii : Idx) (d : Byte)  -- SET 6,(ii+d),D
  | set6AtIdxE (ii : Idx) (d : Byte)  -- SET 6,(ii+d),E
  | set6AtIdxH (ii : Idx) (d : Byte)  -- SET 6,(ii+d),H
  | set6AtIdxL (ii : Idx) (d : Byte)  -- SET 6,(ii+d),L
  | set6AtIdx (ii : Idx) (d : Byte)  -- SET 6,(ii+d)
  | set6AtIdxA (ii : Idx) (d : Byte)  -- SET 6,(ii+d),A
  | set7AtIdxB (ii : Idx) (d : Byte)  -- SET 7,(ii+d),B
  | set7AtIdxC (ii : Idx) (d : Byte)  -- SET 7,(ii+d),C
  | set7AtIdxD (ii : Idx) (d : Byte)  -- SET 7,(ii+d),D
  | set7AtIdxE (ii : Idx) (d : Byte)  -- SET 7,(ii+d),E
  | set7AtIdxH (ii : Idx) (d : Byte)  -- SET 7,(ii+d),H
  | set7AtIdxL (ii : Idx) (d : Byte)  -- SET 7,(ii+d),L
  | set7AtIdx (ii : Idx) (d : Byte)  -- SET 7,(ii+d)
  | set7AtIdxA (ii : Idx) (d : Byte)  -- SET 7,(ii+d),A
  deriving DecidableEq, Repr

end Sys2Proof
end

