-- ==== Sys2Proof/Machine/Fields.lean ====
section
/-! DEFINITION. The operation and operand fields each mnemonic names (R73 to R80, R82 to R89), and what follows from
them alone: which
values two of the fields admit (R80, R87), how many M1 cycles an instruction takes (R91) and whether its rule writes F
(R25, R182). -/

namespace Sys2Proof

/-- The operation and operand fields of an instruction (R82, R83, R85, R86, R87). -/
def Instr.op : Instr → Op
  | .nop => .base .nop
  | .ldBcNn nn => .base (.ldPairN .bc nn)
  | .ldAtBcA => .base (.stA .bc)
  | .incBc => .base (.incPair .bc)
  | .incB => .base (.incReg .b)
  | .decB => .base (.decReg .b)
  | .ldBN n => .base (.ldRegN .b n)
  | .rlca => .base .rlca
  | .exAfAf => .base .exAfAf
  | .addHlBc => .base (.addHl .bc)
  | .ldAAtBc => .base (.ldA .bc)
  | .decBc => .base (.decPair .bc)
  | .incC => .base (.incReg .c)
  | .decC => .base (.decReg .c)
  | .ldCN n => .base (.ldRegN .c n)
  | .rrca => .base .rrca
  | .djnzE e => .base (.djnz e)
  | .ldDeNn nn => .base (.ldPairN .de nn)
  | .ldAtDeA => .base (.stA .de)
  | .incDe => .base (.incPair .de)
  | .incD => .base (.incReg .d)
  | .decD => .base (.decReg .d)
  | .ldDN n => .base (.ldRegN .d n)
  | .rla => .base .rla
  | .jrE e => .base (.jr e)
  | .addHlDe => .base (.addHl .de)
  | .ldAAtDe => .base (.ldA .de)
  | .decDe => .base (.decPair .de)
  | .incE => .base (.incReg .e)
  | .decE => .base (.decReg .e)
  | .ldEN n => .base (.ldRegN .e n)
  | .rra => .base .rra
  | .jrNzE e => .base (.jrCc .nz e)
  | .ldHlNn nn => .base (.ldPairN .hl nn)
  | .ldAtNnHl nn => .base (.stHl nn)
  | .incHl => .base (.incPair .hl)
  | .incH => .base (.incReg .h)
  | .decH => .base (.decReg .h)
  | .ldHN n => .base (.ldRegN .h n)
  | .daa => .base .daa
  | .jrZE e => .base (.jrCc .z e)
  | .addHlHl => .base (.addHl .hl)
  | .ldHlAtNn nn => .base (.ldHl nn)
  | .decHl => .base (.decPair .hl)
  | .incL => .base (.incReg .l)
  | .decL => .base (.decReg .l)
  | .ldLN n => .base (.ldRegN .l n)
  | .cpl => .base .cpl
  | .jrNcE e => .base (.jrCc .nc e)
  | .ldSpNn nn => .base (.ldPairN .sp nn)
  | .ldAtNnA nn => .base (.stAAbs nn)
  | .incSp => .base (.incPair .sp)
  | .incAtHl => .base .incMem
  | .decAtHl => .base .decMem
  | .ldAtHlN n => .base (.ldMemN n)
  | .scf => .base .scf
  | .jrCE e => .base (.jrCc .c e)
  | .addHlSp => .base (.addHl .sp)
  | .ldAAtNn nn => .base (.ldAAbs nn)
  | .decSp => .base (.decPair .sp)
  | .incA => .base (.incReg .a)
  | .decA => .base (.decReg .a)
  | .ldAN n => .base (.ldRegN .a n)
  | .ccf => .base .ccf
  | .ldBB => .base (.ldRegReg .b .b)
  | .ldBC => .base (.ldRegReg .b .c)
  | .ldBD => .base (.ldRegReg .b .d)
  | .ldBE => .base (.ldRegReg .b .e)
  | .ldBH => .base (.ldRegReg .b .h)
  | .ldBL => .base (.ldRegReg .b .l)
  | .ldBAtHl => .base (.ldRegMem .b)
  | .ldBA => .base (.ldRegReg .b .a)
  | .ldCB => .base (.ldRegReg .c .b)
  | .ldCC => .base (.ldRegReg .c .c)
  | .ldCD => .base (.ldRegReg .c .d)
  | .ldCE => .base (.ldRegReg .c .e)
  | .ldCH => .base (.ldRegReg .c .h)
  | .ldCL => .base (.ldRegReg .c .l)
  | .ldCAtHl => .base (.ldRegMem .c)
  | .ldCA => .base (.ldRegReg .c .a)
  | .ldDB => .base (.ldRegReg .d .b)
  | .ldDC => .base (.ldRegReg .d .c)
  | .ldDD => .base (.ldRegReg .d .d)
  | .ldDE => .base (.ldRegReg .d .e)
  | .ldDH => .base (.ldRegReg .d .h)
  | .ldDL => .base (.ldRegReg .d .l)
  | .ldDAtHl => .base (.ldRegMem .d)
  | .ldDA => .base (.ldRegReg .d .a)
  | .ldEB => .base (.ldRegReg .e .b)
  | .ldEC => .base (.ldRegReg .e .c)
  | .ldED => .base (.ldRegReg .e .d)
  | .ldEE => .base (.ldRegReg .e .e)
  | .ldEH => .base (.ldRegReg .e .h)
  | .ldEL => .base (.ldRegReg .e .l)
  | .ldEAtHl => .base (.ldRegMem .e)
  | .ldEA => .base (.ldRegReg .e .a)
  | .ldHB => .base (.ldRegReg .h .b)
  | .ldHC => .base (.ldRegReg .h .c)
  | .ldHD => .base (.ldRegReg .h .d)
  | .ldHE => .base (.ldRegReg .h .e)
  | .ldHH => .base (.ldRegReg .h .h)
  | .ldHL => .base (.ldRegReg .h .l)
  | .ldHAtHl => .base (.ldRegMem .h)
  | .ldHA => .base (.ldRegReg .h .a)
  | .ldLB => .base (.ldRegReg .l .b)
  | .ldLC => .base (.ldRegReg .l .c)
  | .ldLD => .base (.ldRegReg .l .d)
  | .ldLE => .base (.ldRegReg .l .e)
  | .ldLH => .base (.ldRegReg .l .h)
  | .ldLL => .base (.ldRegReg .l .l)
  | .ldLAtHl => .base (.ldRegMem .l)
  | .ldLA => .base (.ldRegReg .l .a)
  | .ldAtHlB => .base (.ldMemReg .b)
  | .ldAtHlC => .base (.ldMemReg .c)
  | .ldAtHlD => .base (.ldMemReg .d)
  | .ldAtHlE => .base (.ldMemReg .e)
  | .ldAtHlH => .base (.ldMemReg .h)
  | .ldAtHlL => .base (.ldMemReg .l)
  | .halt => .base .halt
  | .ldAtHlA => .base (.ldMemReg .a)
  | .ldAB => .base (.ldRegReg .a .b)
  | .ldAC => .base (.ldRegReg .a .c)
  | .ldAD => .base (.ldRegReg .a .d)
  | .ldAE => .base (.ldRegReg .a .e)
  | .ldAH => .base (.ldRegReg .a .h)
  | .ldAL => .base (.ldRegReg .a .l)
  | .ldAAtHl => .base (.ldRegMem .a)
  | .ldAA => .base (.ldRegReg .a .a)
  | .addAB => .base (.aluReg .add .b)
  | .addAC => .base (.aluReg .add .c)
  | .addAD => .base (.aluReg .add .d)
  | .addAE => .base (.aluReg .add .e)
  | .addAH => .base (.aluReg .add .h)
  | .addAL => .base (.aluReg .add .l)
  | .addAAtHl => .base (.aluMem .add)
  | .addAA => .base (.aluReg .add .a)
  | .adcAB => .base (.aluReg .adc .b)
  | .adcAC => .base (.aluReg .adc .c)
  | .adcAD => .base (.aluReg .adc .d)
  | .adcAE => .base (.aluReg .adc .e)
  | .adcAH => .base (.aluReg .adc .h)
  | .adcAL => .base (.aluReg .adc .l)
  | .adcAAtHl => .base (.aluMem .adc)
  | .adcAA => .base (.aluReg .adc .a)
  | .subB => .base (.aluReg .sub .b)
  | .subC => .base (.aluReg .sub .c)
  | .subD => .base (.aluReg .sub .d)
  | .subE => .base (.aluReg .sub .e)
  | .subH => .base (.aluReg .sub .h)
  | .subL => .base (.aluReg .sub .l)
  | .subAtHl => .base (.aluMem .sub)
  | .subA => .base (.aluReg .sub .a)
  | .sbcAB => .base (.aluReg .sbc .b)
  | .sbcAC => .base (.aluReg .sbc .c)
  | .sbcAD => .base (.aluReg .sbc .d)
  | .sbcAE => .base (.aluReg .sbc .e)
  | .sbcAH => .base (.aluReg .sbc .h)
  | .sbcAL => .base (.aluReg .sbc .l)
  | .sbcAAtHl => .base (.aluMem .sbc)
  | .sbcAA => .base (.aluReg .sbc .a)
  | .andB => .base (.aluReg .and .b)
  | .andC => .base (.aluReg .and .c)
  | .andD => .base (.aluReg .and .d)
  | .andE => .base (.aluReg .and .e)
  | .andH => .base (.aluReg .and .h)
  | .andL => .base (.aluReg .and .l)
  | .andAtHl => .base (.aluMem .and)
  | .andA => .base (.aluReg .and .a)
  | .xorB => .base (.aluReg .xor .b)
  | .xorC => .base (.aluReg .xor .c)
  | .xorD => .base (.aluReg .xor .d)
  | .xorE => .base (.aluReg .xor .e)
  | .xorH => .base (.aluReg .xor .h)
  | .xorL => .base (.aluReg .xor .l)
  | .xorAtHl => .base (.aluMem .xor)
  | .xorA => .base (.aluReg .xor .a)
  | .orB => .base (.aluReg .or .b)
  | .orC => .base (.aluReg .or .c)
  | .orD => .base (.aluReg .or .d)
  | .orE => .base (.aluReg .or .e)
  | .orH => .base (.aluReg .or .h)
  | .orL => .base (.aluReg .or .l)
  | .orAtHl => .base (.aluMem .or)
  | .orA => .base (.aluReg .or .a)
  | .cpB => .base (.aluReg .cp .b)
  | .cpC => .base (.aluReg .cp .c)
  | .cpD => .base (.aluReg .cp .d)
  | .cpE => .base (.aluReg .cp .e)
  | .cpH => .base (.aluReg .cp .h)
  | .cpL => .base (.aluReg .cp .l)
  | .cpAtHl => .base (.aluMem .cp)
  | .cpA => .base (.aluReg .cp .a)
  | .retNz => .base (.retCc .nz)
  | .popBc => .base (.pop .bc)
  | .jpNzNn nn => .base (.jpCc .nz nn)
  | .jpNn nn => .base (.jp nn)
  | .callNzNn nn => .base (.callCc .nz nn)
  | .pushBc => .base (.push .bc)
  | .addAN n => .base (.aluN .add n)
  | .rst00 => .base (.rst 0#3)
  | .retZ => .base (.retCc .z)
  | .ret => .base .ret
  | .jpZNn nn => .base (.jpCc .z nn)
  | .callZNn nn => .base (.callCc .z nn)
  | .callNn nn => .base (.call nn)
  | .adcAN n => .base (.aluN .adc n)
  | .rst08 => .base (.rst 1#3)
  | .retNc => .base (.retCc .nc)
  | .popDe => .base (.pop .de)
  | .jpNcNn nn => .base (.jpCc .nc nn)
  | .outAtNA n => .base (.outNA n)
  | .callNcNn nn => .base (.callCc .nc nn)
  | .pushDe => .base (.push .de)
  | .subN n => .base (.aluN .sub n)
  | .rst10 => .base (.rst 2#3)
  | .retC => .base (.retCc .c)
  | .exx => .base .exx
  | .jpCNn nn => .base (.jpCc .c nn)
  | .inAAtN n => .base (.inAN n)
  | .callCNn nn => .base (.callCc .c nn)
  | .sbcAN n => .base (.aluN .sbc n)
  | .rst18 => .base (.rst 3#3)
  | .retPo => .base (.retCc .po)
  | .popHl => .base (.pop .hl)
  | .jpPoNn nn => .base (.jpCc .po nn)
  | .exAtSpHl => .base .exSpHl
  | .callPoNn nn => .base (.callCc .po nn)
  | .pushHl => .base (.push .hl)
  | .andN n => .base (.aluN .and n)
  | .rst20 => .base (.rst 4#3)
  | .retPe => .base (.retCc .pe)
  | .jpAtHl => .base .jpHl
  | .jpPeNn nn => .base (.jpCc .pe nn)
  | .exDeHl => .base .exDeHl
  | .callPeNn nn => .base (.callCc .pe nn)
  | .xorN n => .base (.aluN .xor n)
  | .rst28 => .base (.rst 5#3)
  | .retP => .base (.retCc .p)
  | .popAf => .base (.pop .af)
  | .jpPNn nn => .base (.jpCc .p nn)
  | .di => .base .di
  | .callPNn nn => .base (.callCc .p nn)
  | .pushAf => .base (.push .af)
  | .orN n => .base (.aluN .or n)
  | .rst30 => .base (.rst 6#3)
  | .retM => .base (.retCc .m)
  | .ldSpHl => .base .ldSpHl
  | .jpMNn nn => .base (.jpCc .m nn)
  | .ei => .base .ei
  | .callMNn nn => .base (.callCc .m nn)
  | .cpN n => .base (.aluN .cp n)
  | .rst38 => .base (.rst 7#3)
  | .rlcB => .cb (.rotReg .rlc .b)
  | .rlcC => .cb (.rotReg .rlc .c)
  | .rlcD => .cb (.rotReg .rlc .d)
  | .rlcE => .cb (.rotReg .rlc .e)
  | .rlcH => .cb (.rotReg .rlc .h)
  | .rlcL => .cb (.rotReg .rlc .l)
  | .rlcAtHl => .cb (.rotMem .rlc)
  | .rlcA => .cb (.rotReg .rlc .a)
  | .rrcB => .cb (.rotReg .rrc .b)
  | .rrcC => .cb (.rotReg .rrc .c)
  | .rrcD => .cb (.rotReg .rrc .d)
  | .rrcE => .cb (.rotReg .rrc .e)
  | .rrcH => .cb (.rotReg .rrc .h)
  | .rrcL => .cb (.rotReg .rrc .l)
  | .rrcAtHl => .cb (.rotMem .rrc)
  | .rrcA => .cb (.rotReg .rrc .a)
  | .rlB => .cb (.rotReg .rl .b)
  | .rlC => .cb (.rotReg .rl .c)
  | .rlD => .cb (.rotReg .rl .d)
  | .rlE => .cb (.rotReg .rl .e)
  | .rlH => .cb (.rotReg .rl .h)
  | .rlL => .cb (.rotReg .rl .l)
  | .rlAtHl => .cb (.rotMem .rl)
  | .rlA => .cb (.rotReg .rl .a)
  | .rrB => .cb (.rotReg .rr .b)
  | .rrC => .cb (.rotReg .rr .c)
  | .rrD => .cb (.rotReg .rr .d)
  | .rrE => .cb (.rotReg .rr .e)
  | .rrH => .cb (.rotReg .rr .h)
  | .rrL => .cb (.rotReg .rr .l)
  | .rrAtHl => .cb (.rotMem .rr)
  | .rrA => .cb (.rotReg .rr .a)
  | .slaB => .cb (.rotReg .sla .b)
  | .slaC => .cb (.rotReg .sla .c)
  | .slaD => .cb (.rotReg .sla .d)
  | .slaE => .cb (.rotReg .sla .e)
  | .slaH => .cb (.rotReg .sla .h)
  | .slaL => .cb (.rotReg .sla .l)
  | .slaAtHl => .cb (.rotMem .sla)
  | .slaA => .cb (.rotReg .sla .a)
  | .sraB => .cb (.rotReg .sra .b)
  | .sraC => .cb (.rotReg .sra .c)
  | .sraD => .cb (.rotReg .sra .d)
  | .sraE => .cb (.rotReg .sra .e)
  | .sraH => .cb (.rotReg .sra .h)
  | .sraL => .cb (.rotReg .sra .l)
  | .sraAtHl => .cb (.rotMem .sra)
  | .sraA => .cb (.rotReg .sra .a)
  | .sllB => .cb (.rotReg .sll .b)
  | .sllC => .cb (.rotReg .sll .c)
  | .sllD => .cb (.rotReg .sll .d)
  | .sllE => .cb (.rotReg .sll .e)
  | .sllH => .cb (.rotReg .sll .h)
  | .sllL => .cb (.rotReg .sll .l)
  | .sllAtHl => .cb (.rotMem .sll)
  | .sllA => .cb (.rotReg .sll .a)
  | .srlB => .cb (.rotReg .srl .b)
  | .srlC => .cb (.rotReg .srl .c)
  | .srlD => .cb (.rotReg .srl .d)
  | .srlE => .cb (.rotReg .srl .e)
  | .srlH => .cb (.rotReg .srl .h)
  | .srlL => .cb (.rotReg .srl .l)
  | .srlAtHl => .cb (.rotMem .srl)
  | .srlA => .cb (.rotReg .srl .a)
  | .bit0B => .cb (.bitReg 0#3 .b)
  | .bit0C => .cb (.bitReg 0#3 .c)
  | .bit0D => .cb (.bitReg 0#3 .d)
  | .bit0E => .cb (.bitReg 0#3 .e)
  | .bit0H => .cb (.bitReg 0#3 .h)
  | .bit0L => .cb (.bitReg 0#3 .l)
  | .bit0AtHl => .cb (.bitMem 0#3)
  | .bit0A => .cb (.bitReg 0#3 .a)
  | .bit1B => .cb (.bitReg 1#3 .b)
  | .bit1C => .cb (.bitReg 1#3 .c)
  | .bit1D => .cb (.bitReg 1#3 .d)
  | .bit1E => .cb (.bitReg 1#3 .e)
  | .bit1H => .cb (.bitReg 1#3 .h)
  | .bit1L => .cb (.bitReg 1#3 .l)
  | .bit1AtHl => .cb (.bitMem 1#3)
  | .bit1A => .cb (.bitReg 1#3 .a)
  | .bit2B => .cb (.bitReg 2#3 .b)
  | .bit2C => .cb (.bitReg 2#3 .c)
  | .bit2D => .cb (.bitReg 2#3 .d)
  | .bit2E => .cb (.bitReg 2#3 .e)
  | .bit2H => .cb (.bitReg 2#3 .h)
  | .bit2L => .cb (.bitReg 2#3 .l)
  | .bit2AtHl => .cb (.bitMem 2#3)
  | .bit2A => .cb (.bitReg 2#3 .a)
  | .bit3B => .cb (.bitReg 3#3 .b)
  | .bit3C => .cb (.bitReg 3#3 .c)
  | .bit3D => .cb (.bitReg 3#3 .d)
  | .bit3E => .cb (.bitReg 3#3 .e)
  | .bit3H => .cb (.bitReg 3#3 .h)
  | .bit3L => .cb (.bitReg 3#3 .l)
  | .bit3AtHl => .cb (.bitMem 3#3)
  | .bit3A => .cb (.bitReg 3#3 .a)
  | .bit4B => .cb (.bitReg 4#3 .b)
  | .bit4C => .cb (.bitReg 4#3 .c)
  | .bit4D => .cb (.bitReg 4#3 .d)
  | .bit4E => .cb (.bitReg 4#3 .e)
  | .bit4H => .cb (.bitReg 4#3 .h)
  | .bit4L => .cb (.bitReg 4#3 .l)
  | .bit4AtHl => .cb (.bitMem 4#3)
  | .bit4A => .cb (.bitReg 4#3 .a)
  | .bit5B => .cb (.bitReg 5#3 .b)
  | .bit5C => .cb (.bitReg 5#3 .c)
  | .bit5D => .cb (.bitReg 5#3 .d)
  | .bit5E => .cb (.bitReg 5#3 .e)
  | .bit5H => .cb (.bitReg 5#3 .h)
  | .bit5L => .cb (.bitReg 5#3 .l)
  | .bit5AtHl => .cb (.bitMem 5#3)
  | .bit5A => .cb (.bitReg 5#3 .a)
  | .bit6B => .cb (.bitReg 6#3 .b)
  | .bit6C => .cb (.bitReg 6#3 .c)
  | .bit6D => .cb (.bitReg 6#3 .d)
  | .bit6E => .cb (.bitReg 6#3 .e)
  | .bit6H => .cb (.bitReg 6#3 .h)
  | .bit6L => .cb (.bitReg 6#3 .l)
  | .bit6AtHl => .cb (.bitMem 6#3)
  | .bit6A => .cb (.bitReg 6#3 .a)
  | .bit7B => .cb (.bitReg 7#3 .b)
  | .bit7C => .cb (.bitReg 7#3 .c)
  | .bit7D => .cb (.bitReg 7#3 .d)
  | .bit7E => .cb (.bitReg 7#3 .e)
  | .bit7H => .cb (.bitReg 7#3 .h)
  | .bit7L => .cb (.bitReg 7#3 .l)
  | .bit7AtHl => .cb (.bitMem 7#3)
  | .bit7A => .cb (.bitReg 7#3 .a)
  | .res0B => .cb (.resReg 0#3 .b)
  | .res0C => .cb (.resReg 0#3 .c)
  | .res0D => .cb (.resReg 0#3 .d)
  | .res0E => .cb (.resReg 0#3 .e)
  | .res0H => .cb (.resReg 0#3 .h)
  | .res0L => .cb (.resReg 0#3 .l)
  | .res0AtHl => .cb (.resMem 0#3)
  | .res0A => .cb (.resReg 0#3 .a)
  | .res1B => .cb (.resReg 1#3 .b)
  | .res1C => .cb (.resReg 1#3 .c)
  | .res1D => .cb (.resReg 1#3 .d)
  | .res1E => .cb (.resReg 1#3 .e)
  | .res1H => .cb (.resReg 1#3 .h)
  | .res1L => .cb (.resReg 1#3 .l)
  | .res1AtHl => .cb (.resMem 1#3)
  | .res1A => .cb (.resReg 1#3 .a)
  | .res2B => .cb (.resReg 2#3 .b)
  | .res2C => .cb (.resReg 2#3 .c)
  | .res2D => .cb (.resReg 2#3 .d)
  | .res2E => .cb (.resReg 2#3 .e)
  | .res2H => .cb (.resReg 2#3 .h)
  | .res2L => .cb (.resReg 2#3 .l)
  | .res2AtHl => .cb (.resMem 2#3)
  | .res2A => .cb (.resReg 2#3 .a)
  | .res3B => .cb (.resReg 3#3 .b)
  | .res3C => .cb (.resReg 3#3 .c)
  | .res3D => .cb (.resReg 3#3 .d)
  | .res3E => .cb (.resReg 3#3 .e)
  | .res3H => .cb (.resReg 3#3 .h)
  | .res3L => .cb (.resReg 3#3 .l)
  | .res3AtHl => .cb (.resMem 3#3)
  | .res3A => .cb (.resReg 3#3 .a)
  | .res4B => .cb (.resReg 4#3 .b)
  | .res4C => .cb (.resReg 4#3 .c)
  | .res4D => .cb (.resReg 4#3 .d)
  | .res4E => .cb (.resReg 4#3 .e)
  | .res4H => .cb (.resReg 4#3 .h)
  | .res4L => .cb (.resReg 4#3 .l)
  | .res4AtHl => .cb (.resMem 4#3)
  | .res4A => .cb (.resReg 4#3 .a)
  | .res5B => .cb (.resReg 5#3 .b)
  | .res5C => .cb (.resReg 5#3 .c)
  | .res5D => .cb (.resReg 5#3 .d)
  | .res5E => .cb (.resReg 5#3 .e)
  | .res5H => .cb (.resReg 5#3 .h)
  | .res5L => .cb (.resReg 5#3 .l)
  | .res5AtHl => .cb (.resMem 5#3)
  | .res5A => .cb (.resReg 5#3 .a)
  | .res6B => .cb (.resReg 6#3 .b)
  | .res6C => .cb (.resReg 6#3 .c)
  | .res6D => .cb (.resReg 6#3 .d)
  | .res6E => .cb (.resReg 6#3 .e)
  | .res6H => .cb (.resReg 6#3 .h)
  | .res6L => .cb (.resReg 6#3 .l)
  | .res6AtHl => .cb (.resMem 6#3)
  | .res6A => .cb (.resReg 6#3 .a)
  | .res7B => .cb (.resReg 7#3 .b)
  | .res7C => .cb (.resReg 7#3 .c)
  | .res7D => .cb (.resReg 7#3 .d)
  | .res7E => .cb (.resReg 7#3 .e)
  | .res7H => .cb (.resReg 7#3 .h)
  | .res7L => .cb (.resReg 7#3 .l)
  | .res7AtHl => .cb (.resMem 7#3)
  | .res7A => .cb (.resReg 7#3 .a)
  | .set0B => .cb (.setReg 0#3 .b)
  | .set0C => .cb (.setReg 0#3 .c)
  | .set0D => .cb (.setReg 0#3 .d)
  | .set0E => .cb (.setReg 0#3 .e)
  | .set0H => .cb (.setReg 0#3 .h)
  | .set0L => .cb (.setReg 0#3 .l)
  | .set0AtHl => .cb (.setMem 0#3)
  | .set0A => .cb (.setReg 0#3 .a)
  | .set1B => .cb (.setReg 1#3 .b)
  | .set1C => .cb (.setReg 1#3 .c)
  | .set1D => .cb (.setReg 1#3 .d)
  | .set1E => .cb (.setReg 1#3 .e)
  | .set1H => .cb (.setReg 1#3 .h)
  | .set1L => .cb (.setReg 1#3 .l)
  | .set1AtHl => .cb (.setMem 1#3)
  | .set1A => .cb (.setReg 1#3 .a)
  | .set2B => .cb (.setReg 2#3 .b)
  | .set2C => .cb (.setReg 2#3 .c)
  | .set2D => .cb (.setReg 2#3 .d)
  | .set2E => .cb (.setReg 2#3 .e)
  | .set2H => .cb (.setReg 2#3 .h)
  | .set2L => .cb (.setReg 2#3 .l)
  | .set2AtHl => .cb (.setMem 2#3)
  | .set2A => .cb (.setReg 2#3 .a)
  | .set3B => .cb (.setReg 3#3 .b)
  | .set3C => .cb (.setReg 3#3 .c)
  | .set3D => .cb (.setReg 3#3 .d)
  | .set3E => .cb (.setReg 3#3 .e)
  | .set3H => .cb (.setReg 3#3 .h)
  | .set3L => .cb (.setReg 3#3 .l)
  | .set3AtHl => .cb (.setMem 3#3)
  | .set3A => .cb (.setReg 3#3 .a)
  | .set4B => .cb (.setReg 4#3 .b)
  | .set4C => .cb (.setReg 4#3 .c)
  | .set4D => .cb (.setReg 4#3 .d)
  | .set4E => .cb (.setReg 4#3 .e)
  | .set4H => .cb (.setReg 4#3 .h)
  | .set4L => .cb (.setReg 4#3 .l)
  | .set4AtHl => .cb (.setMem 4#3)
  | .set4A => .cb (.setReg 4#3 .a)
  | .set5B => .cb (.setReg 5#3 .b)
  | .set5C => .cb (.setReg 5#3 .c)
  | .set5D => .cb (.setReg 5#3 .d)
  | .set5E => .cb (.setReg 5#3 .e)
  | .set5H => .cb (.setReg 5#3 .h)
  | .set5L => .cb (.setReg 5#3 .l)
  | .set5AtHl => .cb (.setMem 5#3)
  | .set5A => .cb (.setReg 5#3 .a)
  | .set6B => .cb (.setReg 6#3 .b)
  | .set6C => .cb (.setReg 6#3 .c)
  | .set6D => .cb (.setReg 6#3 .d)
  | .set6E => .cb (.setReg 6#3 .e)
  | .set6H => .cb (.setReg 6#3 .h)
  | .set6L => .cb (.setReg 6#3 .l)
  | .set6AtHl => .cb (.setMem 6#3)
  | .set6A => .cb (.setReg 6#3 .a)
  | .set7B => .cb (.setReg 7#3 .b)
  | .set7C => .cb (.setReg 7#3 .c)
  | .set7D => .cb (.setReg 7#3 .d)
  | .set7E => .cb (.setReg 7#3 .e)
  | .set7H => .cb (.setReg 7#3 .h)
  | .set7L => .cb (.setReg 7#3 .l)
  | .set7AtHl => .cb (.setMem 7#3)
  | .set7A => .cb (.setReg 7#3 .a)
  | .nopStar op => .ed (.nopStar op)
  | .inBAtC => .ed (.inReg .b)
  | .outAtCB => .ed (.outReg .b)
  | .sbcHlBc => .ed (.sbcHl .bc)
  | .ldAtNnBc nn => .ed (.stPair nn .bc)
  | .neg y => .ed (.neg y)
  | .retn y => .ed (.retn y)
  | .im0 y => .ed (.im .im0 y)
  | .ldIA => .ed .ldIA
  | .inCAtC => .ed (.inReg .c)
  | .outAtCC => .ed (.outReg .c)
  | .adcHlBc => .ed (.adcHl .bc)
  | .ldBcAtNn nn => .ed (.ldPair .bc nn)
  | .reti => .ed .reti
  | .ldRA => .ed .ldRA
  | .inDAtC => .ed (.inReg .d)
  | .outAtCD => .ed (.outReg .d)
  | .sbcHlDe => .ed (.sbcHl .de)
  | .ldAtNnDe nn => .ed (.stPair nn .de)
  | .im1 y => .ed (.im .im1 y)
  | .ldAI => .ed .ldAI
  | .inEAtC => .ed (.inReg .e)
  | .outAtCE => .ed (.outReg .e)
  | .adcHlDe => .ed (.adcHl .de)
  | .ldDeAtNn nn => .ed (.ldPair .de nn)
  | .im2 y => .ed (.im .im2 y)
  | .ldAR => .ed .ldAR
  | .inHAtC => .ed (.inReg .h)
  | .outAtCH => .ed (.outReg .h)
  | .sbcHlHl => .ed (.sbcHl .hl)
  | .ldAtNnHlEd nn => .ed (.stPair nn .hl)
  | .rrd => .ed .rrd
  | .inLAtC => .ed (.inReg .l)
  | .outAtCL => .ed (.outReg .l)
  | .adcHlHl => .ed (.adcHl .hl)
  | .ldHlAtNnEd nn => .ed (.ldPair .hl nn)
  | .rld => .ed .rld
  | .inFAtC => .ed .inF
  | .outAtC0 => .ed .outZero
  | .sbcHlSp => .ed (.sbcHl .sp)
  | .ldAtNnSp nn => .ed (.stPair nn .sp)
  | .inAAtC => .ed (.inReg .a)
  | .outAtCA => .ed (.outReg .a)
  | .adcHlSp => .ed (.adcHl .sp)
  | .ldSpAtNn nn => .ed (.ldPair .sp nn)
  | .ldi => .ed (.blockLd .inc false)
  | .cpi => .ed (.blockCp .inc false)
  | .ini => .ed (.blockIn .inc false)
  | .outi => .ed (.blockOut .inc false)
  | .ldd => .ed (.blockLd .dec false)
  | .cpd => .ed (.blockCp .dec false)
  | .ind => .ed (.blockIn .dec false)
  | .outd => .ed (.blockOut .dec false)
  | .ldir => .ed (.blockLd .inc true)
  | .cpir => .ed (.blockCp .inc true)
  | .inir => .ed (.blockIn .inc true)
  | .otir => .ed (.blockOut .inc true)
  | .lddr => .ed (.blockLd .dec true)
  | .cpdr => .ed (.blockCp .dec true)
  | .indr => .ed (.blockIn .dec true)
  | .otdr => .ed (.blockOut .dec true)
  | .ignoredNop ii => .ignored ii .nop
  | .ignoredLdBcNn ii nn => .ignored ii (.ldPairN .bc nn)
  | .ignoredLdAtBcA ii => .ignored ii (.stA .bc)
  | .ignoredIncBc ii => .ignored ii (.incPair .bc)
  | .ignoredIncB ii => .ignored ii (.incReg .b)
  | .ignoredDecB ii => .ignored ii (.decReg .b)
  | .ignoredLdBN ii n => .ignored ii (.ldRegN .b n)
  | .ignoredRlca ii => .ignored ii .rlca
  | .ignoredExAfAf ii => .ignored ii .exAfAf
  | .addIdxBc ii => .idx ii (.add .bc)
  | .ignoredLdAAtBc ii => .ignored ii (.ldA .bc)
  | .ignoredDecBc ii => .ignored ii (.decPair .bc)
  | .ignoredIncC ii => .ignored ii (.incReg .c)
  | .ignoredDecC ii => .ignored ii (.decReg .c)
  | .ignoredLdCN ii n => .ignored ii (.ldRegN .c n)
  | .ignoredRrca ii => .ignored ii .rrca
  | .ignoredDjnzE ii e => .ignored ii (.djnz e)
  | .ignoredLdDeNn ii nn => .ignored ii (.ldPairN .de nn)
  | .ignoredLdAtDeA ii => .ignored ii (.stA .de)
  | .ignoredIncDe ii => .ignored ii (.incPair .de)
  | .ignoredIncD ii => .ignored ii (.incReg .d)
  | .ignoredDecD ii => .ignored ii (.decReg .d)
  | .ignoredLdDN ii n => .ignored ii (.ldRegN .d n)
  | .ignoredRla ii => .ignored ii .rla
  | .ignoredJrE ii e => .ignored ii (.jr e)
  | .addIdxDe ii => .idx ii (.add .de)
  | .ignoredLdAAtDe ii => .ignored ii (.ldA .de)
  | .ignoredDecDe ii => .ignored ii (.decPair .de)
  | .ignoredIncE ii => .ignored ii (.incReg .e)
  | .ignoredDecE ii => .ignored ii (.decReg .e)
  | .ignoredLdEN ii n => .ignored ii (.ldRegN .e n)
  | .ignoredRra ii => .ignored ii .rra
  | .ignoredJrNzE ii e => .ignored ii (.jrCc .nz e)
  | .ldIdxNn ii nn => .idx ii (.ldN nn)
  | .ldAtNnIdx ii nn => .idx ii (.st nn)
  | .incIdx ii => .idx ii .inc
  | .incIdxH ii => .idx ii (.incHalf .high)
  | .decIdxH ii => .idx ii (.decHalf .high)
  | .ldIdxHN ii n => .idx ii (.ldHalfN .high n)
  | .ignoredDaa ii => .ignored ii .daa
  | .ignoredJrZE ii e => .ignored ii (.jrCc .z e)
  | .addIdxIdx ii => .idx ii (.add .hl)
  | .ldIdxAtNn ii nn => .idx ii (.ld nn)
  | .decIdx ii => .idx ii .dec
  | .incIdxL ii => .idx ii (.incHalf .low)
  | .decIdxL ii => .idx ii (.decHalf .low)
  | .ldIdxLN ii n => .idx ii (.ldHalfN .low n)
  | .ignoredCpl ii => .ignored ii .cpl
  | .ignoredJrNcE ii e => .ignored ii (.jrCc .nc e)
  | .ignoredLdSpNn ii nn => .ignored ii (.ldPairN .sp nn)
  | .ignoredLdAtNnA ii nn => .ignored ii (.stAAbs nn)
  | .ignoredIncSp ii => .ignored ii (.incPair .sp)
  | .incAtIdx ii d => .idx ii (.incMem d)
  | .decAtIdx ii d => .idx ii (.decMem d)
  | .ldAtIdxN ii d n => .idx ii (.ldMemN d n)
  | .ignoredScf ii => .ignored ii .scf
  | .ignoredJrCE ii e => .ignored ii (.jrCc .c e)
  | .addIdxSp ii => .idx ii (.add .sp)
  | .ignoredLdAAtNn ii nn => .ignored ii (.ldAAbs nn)
  | .ignoredDecSp ii => .ignored ii (.decPair .sp)
  | .ignoredIncA ii => .ignored ii (.incReg .a)
  | .ignoredDecA ii => .ignored ii (.decReg .a)
  | .ignoredLdAN ii n => .ignored ii (.ldRegN .a n)
  | .ignoredCcf ii => .ignored ii .ccf
  | .ignoredLdBB ii => .ignored ii (.ldRegReg .b .b)
  | .ignoredLdBC ii => .ignored ii (.ldRegReg .b .c)
  | .ignoredLdBD ii => .ignored ii (.ldRegReg .b .d)
  | .ignoredLdBE ii => .ignored ii (.ldRegReg .b .e)
  | .ldBIdxH ii => .idx ii (.ldRegReg .b .h)
  | .ldBIdxL ii => .idx ii (.ldRegReg .b .l)
  | .ldBAtIdx ii d => .idx ii (.ldRegMem .b d)
  | .ignoredLdBA ii => .ignored ii (.ldRegReg .b .a)
  | .ignoredLdCB ii => .ignored ii (.ldRegReg .c .b)
  | .ignoredLdCC ii => .ignored ii (.ldRegReg .c .c)
  | .ignoredLdCD ii => .ignored ii (.ldRegReg .c .d)
  | .ignoredLdCE ii => .ignored ii (.ldRegReg .c .e)
  | .ldCIdxH ii => .idx ii (.ldRegReg .c .h)
  | .ldCIdxL ii => .idx ii (.ldRegReg .c .l)
  | .ldCAtIdx ii d => .idx ii (.ldRegMem .c d)
  | .ignoredLdCA ii => .ignored ii (.ldRegReg .c .a)
  | .ignoredLdDB ii => .ignored ii (.ldRegReg .d .b)
  | .ignoredLdDC ii => .ignored ii (.ldRegReg .d .c)
  | .ignoredLdDD ii => .ignored ii (.ldRegReg .d .d)
  | .ignoredLdDE ii => .ignored ii (.ldRegReg .d .e)
  | .ldDIdxH ii => .idx ii (.ldRegReg .d .h)
  | .ldDIdxL ii => .idx ii (.ldRegReg .d .l)
  | .ldDAtIdx ii d => .idx ii (.ldRegMem .d d)
  | .ignoredLdDA ii => .ignored ii (.ldRegReg .d .a)
  | .ignoredLdEB ii => .ignored ii (.ldRegReg .e .b)
  | .ignoredLdEC ii => .ignored ii (.ldRegReg .e .c)
  | .ignoredLdED ii => .ignored ii (.ldRegReg .e .d)
  | .ignoredLdEE ii => .ignored ii (.ldRegReg .e .e)
  | .ldEIdxH ii => .idx ii (.ldRegReg .e .h)
  | .ldEIdxL ii => .idx ii (.ldRegReg .e .l)
  | .ldEAtIdx ii d => .idx ii (.ldRegMem .e d)
  | .ignoredLdEA ii => .ignored ii (.ldRegReg .e .a)
  | .ldIdxHB ii => .idx ii (.ldRegReg .h .b)
  | .ldIdxHC ii => .idx ii (.ldRegReg .h .c)
  | .ldIdxHD ii => .idx ii (.ldRegReg .h .d)
  | .ldIdxHE ii => .idx ii (.ldRegReg .h .e)
  | .ldIdxHIdxH ii => .idx ii (.ldRegReg .h .h)
  | .ldIdxHIdxL ii => .idx ii (.ldRegReg .h .l)
  | .ldHAtIdx ii d => .idx ii (.ldRegMem .h d)
  | .ldIdxHA ii => .idx ii (.ldRegReg .h .a)
  | .ldIdxLB ii => .idx ii (.ldRegReg .l .b)
  | .ldIdxLC ii => .idx ii (.ldRegReg .l .c)
  | .ldIdxLD ii => .idx ii (.ldRegReg .l .d)
  | .ldIdxLE ii => .idx ii (.ldRegReg .l .e)
  | .ldIdxLIdxH ii => .idx ii (.ldRegReg .l .h)
  | .ldIdxLIdxL ii => .idx ii (.ldRegReg .l .l)
  | .ldLAtIdx ii d => .idx ii (.ldRegMem .l d)
  | .ldIdxLA ii => .idx ii (.ldRegReg .l .a)
  | .ldAtIdxB ii d => .idx ii (.ldMemReg d .b)
  | .ldAtIdxC ii d => .idx ii (.ldMemReg d .c)
  | .ldAtIdxD ii d => .idx ii (.ldMemReg d .d)
  | .ldAtIdxE ii d => .idx ii (.ldMemReg d .e)
  | .ldAtIdxH ii d => .idx ii (.ldMemReg d .h)
  | .ldAtIdxL ii d => .idx ii (.ldMemReg d .l)
  | .ignoredHalt ii => .ignored ii .halt
  | .ldAtIdxA ii d => .idx ii (.ldMemReg d .a)
  | .ignoredLdAB ii => .ignored ii (.ldRegReg .a .b)
  | .ignoredLdAC ii => .ignored ii (.ldRegReg .a .c)
  | .ignoredLdAD ii => .ignored ii (.ldRegReg .a .d)
  | .ignoredLdAE ii => .ignored ii (.ldRegReg .a .e)
  | .ldAIdxH ii => .idx ii (.ldRegReg .a .h)
  | .ldAIdxL ii => .idx ii (.ldRegReg .a .l)
  | .ldAAtIdx ii d => .idx ii (.ldRegMem .a d)
  | .ignoredLdAA ii => .ignored ii (.ldRegReg .a .a)
  | .ignoredAddAB ii => .ignored ii (.aluReg .add .b)
  | .ignoredAddAC ii => .ignored ii (.aluReg .add .c)
  | .ignoredAddAD ii => .ignored ii (.aluReg .add .d)
  | .ignoredAddAE ii => .ignored ii (.aluReg .add .e)
  | .addAIdxH ii => .idx ii (.aluHalf .add .high)
  | .addAIdxL ii => .idx ii (.aluHalf .add .low)
  | .addAAtIdx ii d => .idx ii (.aluMem .add d)
  | .ignoredAddAA ii => .ignored ii (.aluReg .add .a)
  | .ignoredAdcAB ii => .ignored ii (.aluReg .adc .b)
  | .ignoredAdcAC ii => .ignored ii (.aluReg .adc .c)
  | .ignoredAdcAD ii => .ignored ii (.aluReg .adc .d)
  | .ignoredAdcAE ii => .ignored ii (.aluReg .adc .e)
  | .adcAIdxH ii => .idx ii (.aluHalf .adc .high)
  | .adcAIdxL ii => .idx ii (.aluHalf .adc .low)
  | .adcAAtIdx ii d => .idx ii (.aluMem .adc d)
  | .ignoredAdcAA ii => .ignored ii (.aluReg .adc .a)
  | .ignoredSubB ii => .ignored ii (.aluReg .sub .b)
  | .ignoredSubC ii => .ignored ii (.aluReg .sub .c)
  | .ignoredSubD ii => .ignored ii (.aluReg .sub .d)
  | .ignoredSubE ii => .ignored ii (.aluReg .sub .e)
  | .subIdxH ii => .idx ii (.aluHalf .sub .high)
  | .subIdxL ii => .idx ii (.aluHalf .sub .low)
  | .subAtIdx ii d => .idx ii (.aluMem .sub d)
  | .ignoredSubA ii => .ignored ii (.aluReg .sub .a)
  | .ignoredSbcAB ii => .ignored ii (.aluReg .sbc .b)
  | .ignoredSbcAC ii => .ignored ii (.aluReg .sbc .c)
  | .ignoredSbcAD ii => .ignored ii (.aluReg .sbc .d)
  | .ignoredSbcAE ii => .ignored ii (.aluReg .sbc .e)
  | .sbcAIdxH ii => .idx ii (.aluHalf .sbc .high)
  | .sbcAIdxL ii => .idx ii (.aluHalf .sbc .low)
  | .sbcAAtIdx ii d => .idx ii (.aluMem .sbc d)
  | .ignoredSbcAA ii => .ignored ii (.aluReg .sbc .a)
  | .ignoredAndB ii => .ignored ii (.aluReg .and .b)
  | .ignoredAndC ii => .ignored ii (.aluReg .and .c)
  | .ignoredAndD ii => .ignored ii (.aluReg .and .d)
  | .ignoredAndE ii => .ignored ii (.aluReg .and .e)
  | .andIdxH ii => .idx ii (.aluHalf .and .high)
  | .andIdxL ii => .idx ii (.aluHalf .and .low)
  | .andAtIdx ii d => .idx ii (.aluMem .and d)
  | .ignoredAndA ii => .ignored ii (.aluReg .and .a)
  | .ignoredXorB ii => .ignored ii (.aluReg .xor .b)
  | .ignoredXorC ii => .ignored ii (.aluReg .xor .c)
  | .ignoredXorD ii => .ignored ii (.aluReg .xor .d)
  | .ignoredXorE ii => .ignored ii (.aluReg .xor .e)
  | .xorIdxH ii => .idx ii (.aluHalf .xor .high)
  | .xorIdxL ii => .idx ii (.aluHalf .xor .low)
  | .xorAtIdx ii d => .idx ii (.aluMem .xor d)
  | .ignoredXorA ii => .ignored ii (.aluReg .xor .a)
  | .ignoredOrB ii => .ignored ii (.aluReg .or .b)
  | .ignoredOrC ii => .ignored ii (.aluReg .or .c)
  | .ignoredOrD ii => .ignored ii (.aluReg .or .d)
  | .ignoredOrE ii => .ignored ii (.aluReg .or .e)
  | .orIdxH ii => .idx ii (.aluHalf .or .high)
  | .orIdxL ii => .idx ii (.aluHalf .or .low)
  | .orAtIdx ii d => .idx ii (.aluMem .or d)
  | .ignoredOrA ii => .ignored ii (.aluReg .or .a)
  | .ignoredCpB ii => .ignored ii (.aluReg .cp .b)
  | .ignoredCpC ii => .ignored ii (.aluReg .cp .c)
  | .ignoredCpD ii => .ignored ii (.aluReg .cp .d)
  | .ignoredCpE ii => .ignored ii (.aluReg .cp .e)
  | .cpIdxH ii => .idx ii (.aluHalf .cp .high)
  | .cpIdxL ii => .idx ii (.aluHalf .cp .low)
  | .cpAtIdx ii d => .idx ii (.aluMem .cp d)
  | .ignoredCpA ii => .ignored ii (.aluReg .cp .a)
  | .ignoredRetNz ii => .ignored ii (.retCc .nz)
  | .ignoredPopBc ii => .ignored ii (.pop .bc)
  | .ignoredJpNzNn ii nn => .ignored ii (.jpCc .nz nn)
  | .ignoredJpNn ii nn => .ignored ii (.jp nn)
  | .ignoredCallNzNn ii nn => .ignored ii (.callCc .nz nn)
  | .ignoredPushBc ii => .ignored ii (.push .bc)
  | .ignoredAddAN ii n => .ignored ii (.aluN .add n)
  | .ignoredRst00 ii => .ignored ii (.rst 0#3)
  | .ignoredRetZ ii => .ignored ii (.retCc .z)
  | .ignoredRet ii => .ignored ii .ret
  | .ignoredJpZNn ii nn => .ignored ii (.jpCc .z nn)
  | .ignoredCallZNn ii nn => .ignored ii (.callCc .z nn)
  | .ignoredCallNn ii nn => .ignored ii (.call nn)
  | .ignoredAdcAN ii n => .ignored ii (.aluN .adc n)
  | .ignoredRst08 ii => .ignored ii (.rst 1#3)
  | .ignoredRetNc ii => .ignored ii (.retCc .nc)
  | .ignoredPopDe ii => .ignored ii (.pop .de)
  | .ignoredJpNcNn ii nn => .ignored ii (.jpCc .nc nn)
  | .ignoredOutAtNA ii n => .ignored ii (.outNA n)
  | .ignoredCallNcNn ii nn => .ignored ii (.callCc .nc nn)
  | .ignoredPushDe ii => .ignored ii (.push .de)
  | .ignoredSubN ii n => .ignored ii (.aluN .sub n)
  | .ignoredRst10 ii => .ignored ii (.rst 2#3)
  | .ignoredRetC ii => .ignored ii (.retCc .c)
  | .ignoredExx ii => .ignored ii .exx
  | .ignoredJpCNn ii nn => .ignored ii (.jpCc .c nn)
  | .ignoredInAAtN ii n => .ignored ii (.inAN n)
  | .ignoredCallCNn ii nn => .ignored ii (.callCc .c nn)
  | .redundantPrefix first second => .redundant first second
  | .ignoredSbcAN ii n => .ignored ii (.aluN .sbc n)
  | .ignoredRst18 ii => .ignored ii (.rst 3#3)
  | .ignoredRetPo ii => .ignored ii (.retCc .po)
  | .popIdx ii => .idx ii .pop
  | .ignoredJpPoNn ii nn => .ignored ii (.jpCc .po nn)
  | .exAtSpIdx ii => .idx ii .exSp
  | .ignoredCallPoNn ii nn => .ignored ii (.callCc .po nn)
  | .pushIdx ii => .idx ii .push
  | .ignoredAndN ii n => .ignored ii (.aluN .and n)
  | .ignoredRst20 ii => .ignored ii (.rst 4#3)
  | .ignoredRetPe ii => .ignored ii (.retCc .pe)
  | .jpAtIdx ii => .idx ii .jp
  | .ignoredJpPeNn ii nn => .ignored ii (.jpCc .pe nn)
  | .ignoredExDeHl ii => .ignored ii .exDeHl
  | .ignoredCallPeNn ii nn => .ignored ii (.callCc .pe nn)
  | .ignoredEd ii o => .ignoredEd ii o
  | .ignoredXorN ii n => .ignored ii (.aluN .xor n)
  | .ignoredRst28 ii => .ignored ii (.rst 5#3)
  | .ignoredRetP ii => .ignored ii (.retCc .p)
  | .ignoredPopAf ii => .ignored ii (.pop .af)
  | .ignoredJpPNn ii nn => .ignored ii (.jpCc .p nn)
  | .ignoredDi ii => .ignored ii .di
  | .ignoredCallPNn ii nn => .ignored ii (.callCc .p nn)
  | .ignoredPushAf ii => .ignored ii (.push .af)
  | .ignoredOrN ii n => .ignored ii (.aluN .or n)
  | .ignoredRst30 ii => .ignored ii (.rst 6#3)
  | .ignoredRetM ii => .ignored ii (.retCc .m)
  | .ldSpIdx ii => .idx ii .ldSp
  | .ignoredJpMNn ii nn => .ignored ii (.jpCc .m nn)
  | .ignoredEi ii => .ignored ii .ei
  | .ignoredCallMNn ii nn => .ignored ii (.callCc .m nn)
  | .ignoredCpN ii n => .ignored ii (.aluN .cp n)
  | .ignoredRst38 ii => .ignored ii (.rst 7#3)
  | .rlcAtIdxB ii d => .idxCb ii d (.rot .rlc (some .b))
  | .rlcAtIdxC ii d => .idxCb ii d (.rot .rlc (some .c))
  | .rlcAtIdxD ii d => .idxCb ii d (.rot .rlc (some .d))
  | .rlcAtIdxE ii d => .idxCb ii d (.rot .rlc (some .e))
  | .rlcAtIdxH ii d => .idxCb ii d (.rot .rlc (some .h))
  | .rlcAtIdxL ii d => .idxCb ii d (.rot .rlc (some .l))
  | .rlcAtIdx ii d => .idxCb ii d (.rot .rlc none)
  | .rlcAtIdxA ii d => .idxCb ii d (.rot .rlc (some .a))
  | .rrcAtIdxB ii d => .idxCb ii d (.rot .rrc (some .b))
  | .rrcAtIdxC ii d => .idxCb ii d (.rot .rrc (some .c))
  | .rrcAtIdxD ii d => .idxCb ii d (.rot .rrc (some .d))
  | .rrcAtIdxE ii d => .idxCb ii d (.rot .rrc (some .e))
  | .rrcAtIdxH ii d => .idxCb ii d (.rot .rrc (some .h))
  | .rrcAtIdxL ii d => .idxCb ii d (.rot .rrc (some .l))
  | .rrcAtIdx ii d => .idxCb ii d (.rot .rrc none)
  | .rrcAtIdxA ii d => .idxCb ii d (.rot .rrc (some .a))
  | .rlAtIdxB ii d => .idxCb ii d (.rot .rl (some .b))
  | .rlAtIdxC ii d => .idxCb ii d (.rot .rl (some .c))
  | .rlAtIdxD ii d => .idxCb ii d (.rot .rl (some .d))
  | .rlAtIdxE ii d => .idxCb ii d (.rot .rl (some .e))
  | .rlAtIdxH ii d => .idxCb ii d (.rot .rl (some .h))
  | .rlAtIdxL ii d => .idxCb ii d (.rot .rl (some .l))
  | .rlAtIdx ii d => .idxCb ii d (.rot .rl none)
  | .rlAtIdxA ii d => .idxCb ii d (.rot .rl (some .a))
  | .rrAtIdxB ii d => .idxCb ii d (.rot .rr (some .b))
  | .rrAtIdxC ii d => .idxCb ii d (.rot .rr (some .c))
  | .rrAtIdxD ii d => .idxCb ii d (.rot .rr (some .d))
  | .rrAtIdxE ii d => .idxCb ii d (.rot .rr (some .e))
  | .rrAtIdxH ii d => .idxCb ii d (.rot .rr (some .h))
  | .rrAtIdxL ii d => .idxCb ii d (.rot .rr (some .l))
  | .rrAtIdx ii d => .idxCb ii d (.rot .rr none)
  | .rrAtIdxA ii d => .idxCb ii d (.rot .rr (some .a))
  | .slaAtIdxB ii d => .idxCb ii d (.rot .sla (some .b))
  | .slaAtIdxC ii d => .idxCb ii d (.rot .sla (some .c))
  | .slaAtIdxD ii d => .idxCb ii d (.rot .sla (some .d))
  | .slaAtIdxE ii d => .idxCb ii d (.rot .sla (some .e))
  | .slaAtIdxH ii d => .idxCb ii d (.rot .sla (some .h))
  | .slaAtIdxL ii d => .idxCb ii d (.rot .sla (some .l))
  | .slaAtIdx ii d => .idxCb ii d (.rot .sla none)
  | .slaAtIdxA ii d => .idxCb ii d (.rot .sla (some .a))
  | .sraAtIdxB ii d => .idxCb ii d (.rot .sra (some .b))
  | .sraAtIdxC ii d => .idxCb ii d (.rot .sra (some .c))
  | .sraAtIdxD ii d => .idxCb ii d (.rot .sra (some .d))
  | .sraAtIdxE ii d => .idxCb ii d (.rot .sra (some .e))
  | .sraAtIdxH ii d => .idxCb ii d (.rot .sra (some .h))
  | .sraAtIdxL ii d => .idxCb ii d (.rot .sra (some .l))
  | .sraAtIdx ii d => .idxCb ii d (.rot .sra none)
  | .sraAtIdxA ii d => .idxCb ii d (.rot .sra (some .a))
  | .sllAtIdxB ii d => .idxCb ii d (.rot .sll (some .b))
  | .sllAtIdxC ii d => .idxCb ii d (.rot .sll (some .c))
  | .sllAtIdxD ii d => .idxCb ii d (.rot .sll (some .d))
  | .sllAtIdxE ii d => .idxCb ii d (.rot .sll (some .e))
  | .sllAtIdxH ii d => .idxCb ii d (.rot .sll (some .h))
  | .sllAtIdxL ii d => .idxCb ii d (.rot .sll (some .l))
  | .sllAtIdx ii d => .idxCb ii d (.rot .sll none)
  | .sllAtIdxA ii d => .idxCb ii d (.rot .sll (some .a))
  | .srlAtIdxB ii d => .idxCb ii d (.rot .srl (some .b))
  | .srlAtIdxC ii d => .idxCb ii d (.rot .srl (some .c))
  | .srlAtIdxD ii d => .idxCb ii d (.rot .srl (some .d))
  | .srlAtIdxE ii d => .idxCb ii d (.rot .srl (some .e))
  | .srlAtIdxH ii d => .idxCb ii d (.rot .srl (some .h))
  | .srlAtIdxL ii d => .idxCb ii d (.rot .srl (some .l))
  | .srlAtIdx ii d => .idxCb ii d (.rot .srl none)
  | .srlAtIdxA ii d => .idxCb ii d (.rot .srl (some .a))
  | .bit0AtIdx ii d z => .idxCb ii d (.bit 0#3 z)
  | .bit1AtIdx ii d z => .idxCb ii d (.bit 1#3 z)
  | .bit2AtIdx ii d z => .idxCb ii d (.bit 2#3 z)
  | .bit3AtIdx ii d z => .idxCb ii d (.bit 3#3 z)
  | .bit4AtIdx ii d z => .idxCb ii d (.bit 4#3 z)
  | .bit5AtIdx ii d z => .idxCb ii d (.bit 5#3 z)
  | .bit6AtIdx ii d z => .idxCb ii d (.bit 6#3 z)
  | .bit7AtIdx ii d z => .idxCb ii d (.bit 7#3 z)
  | .res0AtIdxB ii d => .idxCb ii d (.res 0#3 (some .b))
  | .res0AtIdxC ii d => .idxCb ii d (.res 0#3 (some .c))
  | .res0AtIdxD ii d => .idxCb ii d (.res 0#3 (some .d))
  | .res0AtIdxE ii d => .idxCb ii d (.res 0#3 (some .e))
  | .res0AtIdxH ii d => .idxCb ii d (.res 0#3 (some .h))
  | .res0AtIdxL ii d => .idxCb ii d (.res 0#3 (some .l))
  | .res0AtIdx ii d => .idxCb ii d (.res 0#3 none)
  | .res0AtIdxA ii d => .idxCb ii d (.res 0#3 (some .a))
  | .res1AtIdxB ii d => .idxCb ii d (.res 1#3 (some .b))
  | .res1AtIdxC ii d => .idxCb ii d (.res 1#3 (some .c))
  | .res1AtIdxD ii d => .idxCb ii d (.res 1#3 (some .d))
  | .res1AtIdxE ii d => .idxCb ii d (.res 1#3 (some .e))
  | .res1AtIdxH ii d => .idxCb ii d (.res 1#3 (some .h))
  | .res1AtIdxL ii d => .idxCb ii d (.res 1#3 (some .l))
  | .res1AtIdx ii d => .idxCb ii d (.res 1#3 none)
  | .res1AtIdxA ii d => .idxCb ii d (.res 1#3 (some .a))
  | .res2AtIdxB ii d => .idxCb ii d (.res 2#3 (some .b))
  | .res2AtIdxC ii d => .idxCb ii d (.res 2#3 (some .c))
  | .res2AtIdxD ii d => .idxCb ii d (.res 2#3 (some .d))
  | .res2AtIdxE ii d => .idxCb ii d (.res 2#3 (some .e))
  | .res2AtIdxH ii d => .idxCb ii d (.res 2#3 (some .h))
  | .res2AtIdxL ii d => .idxCb ii d (.res 2#3 (some .l))
  | .res2AtIdx ii d => .idxCb ii d (.res 2#3 none)
  | .res2AtIdxA ii d => .idxCb ii d (.res 2#3 (some .a))
  | .res3AtIdxB ii d => .idxCb ii d (.res 3#3 (some .b))
  | .res3AtIdxC ii d => .idxCb ii d (.res 3#3 (some .c))
  | .res3AtIdxD ii d => .idxCb ii d (.res 3#3 (some .d))
  | .res3AtIdxE ii d => .idxCb ii d (.res 3#3 (some .e))
  | .res3AtIdxH ii d => .idxCb ii d (.res 3#3 (some .h))
  | .res3AtIdxL ii d => .idxCb ii d (.res 3#3 (some .l))
  | .res3AtIdx ii d => .idxCb ii d (.res 3#3 none)
  | .res3AtIdxA ii d => .idxCb ii d (.res 3#3 (some .a))
  | .res4AtIdxB ii d => .idxCb ii d (.res 4#3 (some .b))
  | .res4AtIdxC ii d => .idxCb ii d (.res 4#3 (some .c))
  | .res4AtIdxD ii d => .idxCb ii d (.res 4#3 (some .d))
  | .res4AtIdxE ii d => .idxCb ii d (.res 4#3 (some .e))
  | .res4AtIdxH ii d => .idxCb ii d (.res 4#3 (some .h))
  | .res4AtIdxL ii d => .idxCb ii d (.res 4#3 (some .l))
  | .res4AtIdx ii d => .idxCb ii d (.res 4#3 none)
  | .res4AtIdxA ii d => .idxCb ii d (.res 4#3 (some .a))
  | .res5AtIdxB ii d => .idxCb ii d (.res 5#3 (some .b))
  | .res5AtIdxC ii d => .idxCb ii d (.res 5#3 (some .c))
  | .res5AtIdxD ii d => .idxCb ii d (.res 5#3 (some .d))
  | .res5AtIdxE ii d => .idxCb ii d (.res 5#3 (some .e))
  | .res5AtIdxH ii d => .idxCb ii d (.res 5#3 (some .h))
  | .res5AtIdxL ii d => .idxCb ii d (.res 5#3 (some .l))
  | .res5AtIdx ii d => .idxCb ii d (.res 5#3 none)
  | .res5AtIdxA ii d => .idxCb ii d (.res 5#3 (some .a))
  | .res6AtIdxB ii d => .idxCb ii d (.res 6#3 (some .b))
  | .res6AtIdxC ii d => .idxCb ii d (.res 6#3 (some .c))
  | .res6AtIdxD ii d => .idxCb ii d (.res 6#3 (some .d))
  | .res6AtIdxE ii d => .idxCb ii d (.res 6#3 (some .e))
  | .res6AtIdxH ii d => .idxCb ii d (.res 6#3 (some .h))
  | .res6AtIdxL ii d => .idxCb ii d (.res 6#3 (some .l))
  | .res6AtIdx ii d => .idxCb ii d (.res 6#3 none)
  | .res6AtIdxA ii d => .idxCb ii d (.res 6#3 (some .a))
  | .res7AtIdxB ii d => .idxCb ii d (.res 7#3 (some .b))
  | .res7AtIdxC ii d => .idxCb ii d (.res 7#3 (some .c))
  | .res7AtIdxD ii d => .idxCb ii d (.res 7#3 (some .d))
  | .res7AtIdxE ii d => .idxCb ii d (.res 7#3 (some .e))
  | .res7AtIdxH ii d => .idxCb ii d (.res 7#3 (some .h))
  | .res7AtIdxL ii d => .idxCb ii d (.res 7#3 (some .l))
  | .res7AtIdx ii d => .idxCb ii d (.res 7#3 none)
  | .res7AtIdxA ii d => .idxCb ii d (.res 7#3 (some .a))
  | .set0AtIdxB ii d => .idxCb ii d (.set 0#3 (some .b))
  | .set0AtIdxC ii d => .idxCb ii d (.set 0#3 (some .c))
  | .set0AtIdxD ii d => .idxCb ii d (.set 0#3 (some .d))
  | .set0AtIdxE ii d => .idxCb ii d (.set 0#3 (some .e))
  | .set0AtIdxH ii d => .idxCb ii d (.set 0#3 (some .h))
  | .set0AtIdxL ii d => .idxCb ii d (.set 0#3 (some .l))
  | .set0AtIdx ii d => .idxCb ii d (.set 0#3 none)
  | .set0AtIdxA ii d => .idxCb ii d (.set 0#3 (some .a))
  | .set1AtIdxB ii d => .idxCb ii d (.set 1#3 (some .b))
  | .set1AtIdxC ii d => .idxCb ii d (.set 1#3 (some .c))
  | .set1AtIdxD ii d => .idxCb ii d (.set 1#3 (some .d))
  | .set1AtIdxE ii d => .idxCb ii d (.set 1#3 (some .e))
  | .set1AtIdxH ii d => .idxCb ii d (.set 1#3 (some .h))
  | .set1AtIdxL ii d => .idxCb ii d (.set 1#3 (some .l))
  | .set1AtIdx ii d => .idxCb ii d (.set 1#3 none)
  | .set1AtIdxA ii d => .idxCb ii d (.set 1#3 (some .a))
  | .set2AtIdxB ii d => .idxCb ii d (.set 2#3 (some .b))
  | .set2AtIdxC ii d => .idxCb ii d (.set 2#3 (some .c))
  | .set2AtIdxD ii d => .idxCb ii d (.set 2#3 (some .d))
  | .set2AtIdxE ii d => .idxCb ii d (.set 2#3 (some .e))
  | .set2AtIdxH ii d => .idxCb ii d (.set 2#3 (some .h))
  | .set2AtIdxL ii d => .idxCb ii d (.set 2#3 (some .l))
  | .set2AtIdx ii d => .idxCb ii d (.set 2#3 none)
  | .set2AtIdxA ii d => .idxCb ii d (.set 2#3 (some .a))
  | .set3AtIdxB ii d => .idxCb ii d (.set 3#3 (some .b))
  | .set3AtIdxC ii d => .idxCb ii d (.set 3#3 (some .c))
  | .set3AtIdxD ii d => .idxCb ii d (.set 3#3 (some .d))
  | .set3AtIdxE ii d => .idxCb ii d (.set 3#3 (some .e))
  | .set3AtIdxH ii d => .idxCb ii d (.set 3#3 (some .h))
  | .set3AtIdxL ii d => .idxCb ii d (.set 3#3 (some .l))
  | .set3AtIdx ii d => .idxCb ii d (.set 3#3 none)
  | .set3AtIdxA ii d => .idxCb ii d (.set 3#3 (some .a))
  | .set4AtIdxB ii d => .idxCb ii d (.set 4#3 (some .b))
  | .set4AtIdxC ii d => .idxCb ii d (.set 4#3 (some .c))
  | .set4AtIdxD ii d => .idxCb ii d (.set 4#3 (some .d))
  | .set4AtIdxE ii d => .idxCb ii d (.set 4#3 (some .e))
  | .set4AtIdxH ii d => .idxCb ii d (.set 4#3 (some .h))
  | .set4AtIdxL ii d => .idxCb ii d (.set 4#3 (some .l))
  | .set4AtIdx ii d => .idxCb ii d (.set 4#3 none)
  | .set4AtIdxA ii d => .idxCb ii d (.set 4#3 (some .a))
  | .set5AtIdxB ii d => .idxCb ii d (.set 5#3 (some .b))
  | .set5AtIdxC ii d => .idxCb ii d (.set 5#3 (some .c))
  | .set5AtIdxD ii d => .idxCb ii d (.set 5#3 (some .d))
  | .set5AtIdxE ii d => .idxCb ii d (.set 5#3 (some .e))
  | .set5AtIdxH ii d => .idxCb ii d (.set 5#3 (some .h))
  | .set5AtIdxL ii d => .idxCb ii d (.set 5#3 (some .l))
  | .set5AtIdx ii d => .idxCb ii d (.set 5#3 none)
  | .set5AtIdxA ii d => .idxCb ii d (.set 5#3 (some .a))
  | .set6AtIdxB ii d => .idxCb ii d (.set 6#3 (some .b))
  | .set6AtIdxC ii d => .idxCb ii d (.set 6#3 (some .c))
  | .set6AtIdxD ii d => .idxCb ii d (.set 6#3 (some .d))
  | .set6AtIdxE ii d => .idxCb ii d (.set 6#3 (some .e))
  | .set6AtIdxH ii d => .idxCb ii d (.set 6#3 (some .h))
  | .set6AtIdxL ii d => .idxCb ii d (.set 6#3 (some .l))
  | .set6AtIdx ii d => .idxCb ii d (.set 6#3 none)
  | .set6AtIdxA ii d => .idxCb ii d (.set 6#3 (some .a))
  | .set7AtIdxB ii d => .idxCb ii d (.set 7#3 (some .b))
  | .set7AtIdxC ii d => .idxCb ii d (.set 7#3 (some .c))
  | .set7AtIdxD ii d => .idxCb ii d (.set 7#3 (some .d))
  | .set7AtIdxE ii d => .idxCb ii d (.set 7#3 (some .e))
  | .set7AtIdxH ii d => .idxCb ii d (.set 7#3 (some .h))
  | .set7AtIdxL ii d => .idxCb ii d (.set 7#3 (some .l))
  | .set7AtIdx ii d => .idxCb ii d (.set 7#3 none)
  | .set7AtIdxA ii d => .idxCb ii d (.set 7#3 (some .a))

/-- The ED bytes no instruction is assigned to (R87, R265). -/
def unassignedEd (op : Byte) : Bool :=
  decide (op.toNat < 0x40) || op == 0x77#8 || op == 0x7F#8 ||
    (decide (0x80 ≤ op.toNat) && decide (op.toNat < 0xA0)) ||
    (decide (0xA0 ≤ op.toNat) && decide (op.toNat < 0xC0) && op.getLsbD 2) ||
    decide (0xC0 ≤ op.toNat)

/-- The mode field y selects (R80, R264). -/
def imMode (y : BitVec 3) : IntMode :=
  match y.toNat % 4 with
  | 2 => .im1
  | 3 => .im2
  | _ => .im0

/-- The M1 cycles of an instruction fetched with all its prefixes (R91). -/
def Op.m1 : Op → Nat
  | .base _ => 1
  | .cb _ => 2
  | .ed _ => 2
  | .idx _ _ => 2
  | .idxCb _ _ _ => 2
  | .ignored _ _ => 2
  | .ignoredEd _ _ => 3
  | .redundant _ _ => 2

/-- Whether the Flags line of a base instruction's rule is other than "none" (R182). -/
def BaseOp.writesF : BaseOp → Bool
  | .nop => false
  | .exAfAf => true
  | .djnz _ => false
  | .jr _ => false
  | .jrCc _ _ => false
  | .ldPairN _ _ => false
  | .addHl _ => true
  | .stA _ => false
  | .ldA _ => false
  | .stHl _ => false
  | .ldHl _ => false
  | .stAAbs _ => false
  | .ldAAbs _ => false
  | .incPair _ => false
  | .decPair _ => false
  | .incReg _ => true
  | .incMem => true
  | .decReg _ => true
  | .decMem => true
  | .ldRegN _ _ => false
  | .ldMemN _ => false
  | .rlca => true
  | .rrca => true
  | .rla => true
  | .rra => true
  | .daa => true
  | .cpl => true
  | .scf => true
  | .ccf => true
  | .halt => false
  | .ldRegReg _ _ => false
  | .ldRegMem _ => false
  | .ldMemReg _ => false
  | .aluReg _ _ => true
  | .aluMem _ => true
  | .aluN _ _ => true
  | .retCc _ => false
  | .pop q => decide (q = .af)
  | .push _ => false
  | .ret => false
  | .exx => false
  | .jpHl => false
  | .ldSpHl => false
  | .jpCc _ _ => false
  | .jp _ => false
  | .outNA _ => false
  | .inAN _ => false
  | .exSpHl => false
  | .exDeHl => false
  | .di => false
  | .ei => false
  | .callCc _ _ => false
  | .call _ => false
  | .rst _ => false

/-- The same for a CB instruction: SET and RES write no flag (R199, R215). -/
def CbOp.writesF : CbOp → Bool
  | .rotReg _ _ => true
  | .rotMem _ => true
  | .bitReg _ _ => true
  | .bitMem _ => true
  | .resReg _ _ => false
  | .resMem _ => false
  | .setReg _ _ => false
  | .setMem _ => false

/-- The same for an ED instruction. -/
def EdOp.writesF : EdOp → Bool
  | .inReg _ => true
  | .inF => true
  | .outReg _ => false
  | .outZero => false
  | .sbcHl _ => true
  | .adcHl _ => true
  | .stPair _ _ => false
  | .ldPair _ _ => false
  | .neg _ => true
  | .retn _ => false
  | .reti => false
  | .im _ _ => false
  | .ldIA => false
  | .ldRA => false
  | .ldAI => true
  | .ldAR => true
  | .rrd => true
  | .rld => true
  | .blockLd _ _ => true
  | .blockCp _ _ => true
  | .blockIn _ _ => true
  | .blockOut _ _ => true
  | .nopStar _ => false

/-- The same for an instruction an index prefix affects. -/
def IdxOp.writesF : IdxOp → Bool
  | .add _ => true
  | .ldN _ => false
  | .st _ => false
  | .ld _ => false
  | .inc => false
  | .dec => false
  | .incHalf _ => true
  | .decHalf _ => true
  | .ldHalfN _ _ => false
  | .incMem _ => true
  | .decMem _ => true
  | .ldMemN _ _ => false
  | .ldRegReg _ _ => false
  | .ldRegMem _ _ => false
  | .ldMemReg _ _ => false
  | .aluHalf _ _ => true
  | .aluMem _ _ => true
  | .pop => false
  | .push => false
  | .exSp => false
  | .jp => false
  | .ldSp => false

/-- The same for a DDCB or FDCB instruction. -/
def IdxCbOp.writesF : IdxCbOp → Bool
  | .rot _ _ => true
  | .bit _ _ => true
  | .res _ _ => false
  | .set _ _ => false

/-- Whether an instruction wrote F, as R182's q asks: an ignored prefix leaves the flags to the instruction it
precedes (R266), and a redundant prefix writes none (R267). -/
def Op.writesF : Op → Bool
  | .base o => o.writesF
  | .cb o => o.writesF
  | .ed o => o.writesF
  | .idx _ o => o.writesF
  | .idxCb _ _ o => o.writesF
  | .ignored _ o => o.writesF
  | .ignoredEd _ o => o.writesF
  | .redundant _ _ => false

end Sys2Proof
end

