-- ==== Sys2Proof/Decode.lean ====
section
/-! DEFINITION. The decoder: from bytes and the pending prefix to an instruction and the number of bytes fetched (R71,
R72), by the grids of spec file 30_encoding.md. After it the encoder, from the field formulas of the same file. -/

namespace Sys2Proof

-- Lean's code generator gives a constructor that has fields a tag below 245, and Instr has 1023 constructors, so what
-- builds an Instr has no compiled code. The kernel evaluates it like any other definition.
noncomputable section

/-- Why the decoder refuses. -/
inductive DecodeError
  /-- The instruction has more bytes than were given. Safe; a step gives five, which is always enough. -/
  | outOfBytes
  /-- The grid has no instruction for the opcode byte. Safe; it never happens, since every byte is assigned (R90). -/
  | noSuchEntry (op : Byte)
  deriving DecidableEq, Repr

/-- An instruction and how many bytes were fetched for it. -/
structure Decoded where
  instr : Instr
  size : Nat
  deriving DecidableEq, Repr

/-- One cell of a grid: the instruction, and the operand bytes it still takes. -/
inductive Form
  | plain (i : Instr)
  /-- One byte: n, e or d (R74, R81). -/
  | byte (f : Byte → Instr)
  /-- Two bytes, the low one first: nn (R75). -/
  | word (f : Word → Instr)
  /-- d, then n (R107). -/
  | bytes (f : Byte → Byte → Instr)
  /-- A prefix byte, which R72 treats before any grid is read. -/
  | prefixByte
  /-- An ED byte that no instruction is assigned to (R265). -/
  | unassigned

def baseRow0 : List Form :=
  [.plain .nop,
   .word .ldBcNn,
   .plain .ldAtBcA,
   .plain .incBc,
   .plain .incB,
   .plain .decB,
   .byte .ldBN,
   .plain .rlca,
   .plain .exAfAf,
   .plain .addHlBc,
   .plain .ldAAtBc,
   .plain .decBc,
   .plain .incC,
   .plain .decC,
   .byte .ldCN,
   .plain .rrca]

def baseRow1 : List Form :=
  [.byte .djnzE,
   .word .ldDeNn,
   .plain .ldAtDeA,
   .plain .incDe,
   .plain .incD,
   .plain .decD,
   .byte .ldDN,
   .plain .rla,
   .byte .jrE,
   .plain .addHlDe,
   .plain .ldAAtDe,
   .plain .decDe,
   .plain .incE,
   .plain .decE,
   .byte .ldEN,
   .plain .rra]

def baseRow2 : List Form :=
  [.byte .jrNzE,
   .word .ldHlNn,
   .word .ldAtNnHl,
   .plain .incHl,
   .plain .incH,
   .plain .decH,
   .byte .ldHN,
   .plain .daa,
   .byte .jrZE,
   .plain .addHlHl,
   .word .ldHlAtNn,
   .plain .decHl,
   .plain .incL,
   .plain .decL,
   .byte .ldLN,
   .plain .cpl]

def baseRow3 : List Form :=
  [.byte .jrNcE,
   .word .ldSpNn,
   .word .ldAtNnA,
   .plain .incSp,
   .plain .incAtHl,
   .plain .decAtHl,
   .byte .ldAtHlN,
   .plain .scf,
   .byte .jrCE,
   .plain .addHlSp,
   .word .ldAAtNn,
   .plain .decSp,
   .plain .incA,
   .plain .decA,
   .byte .ldAN,
   .plain .ccf]

def baseRow4 : List Form :=
  [.plain .ldBB,
   .plain .ldBC,
   .plain .ldBD,
   .plain .ldBE,
   .plain .ldBH,
   .plain .ldBL,
   .plain .ldBAtHl,
   .plain .ldBA,
   .plain .ldCB,
   .plain .ldCC,
   .plain .ldCD,
   .plain .ldCE,
   .plain .ldCH,
   .plain .ldCL,
   .plain .ldCAtHl,
   .plain .ldCA]

def baseRow5 : List Form :=
  [.plain .ldDB,
   .plain .ldDC,
   .plain .ldDD,
   .plain .ldDE,
   .plain .ldDH,
   .plain .ldDL,
   .plain .ldDAtHl,
   .plain .ldDA,
   .plain .ldEB,
   .plain .ldEC,
   .plain .ldED,
   .plain .ldEE,
   .plain .ldEH,
   .plain .ldEL,
   .plain .ldEAtHl,
   .plain .ldEA]

def baseRow6 : List Form :=
  [.plain .ldHB,
   .plain .ldHC,
   .plain .ldHD,
   .plain .ldHE,
   .plain .ldHH,
   .plain .ldHL,
   .plain .ldHAtHl,
   .plain .ldHA,
   .plain .ldLB,
   .plain .ldLC,
   .plain .ldLD,
   .plain .ldLE,
   .plain .ldLH,
   .plain .ldLL,
   .plain .ldLAtHl,
   .plain .ldLA]

def baseRow7 : List Form :=
  [.plain .ldAtHlB,
   .plain .ldAtHlC,
   .plain .ldAtHlD,
   .plain .ldAtHlE,
   .plain .ldAtHlH,
   .plain .ldAtHlL,
   .plain .halt,
   .plain .ldAtHlA,
   .plain .ldAB,
   .plain .ldAC,
   .plain .ldAD,
   .plain .ldAE,
   .plain .ldAH,
   .plain .ldAL,
   .plain .ldAAtHl,
   .plain .ldAA]

def baseRow8 : List Form :=
  [.plain .addAB,
   .plain .addAC,
   .plain .addAD,
   .plain .addAE,
   .plain .addAH,
   .plain .addAL,
   .plain .addAAtHl,
   .plain .addAA,
   .plain .adcAB,
   .plain .adcAC,
   .plain .adcAD,
   .plain .adcAE,
   .plain .adcAH,
   .plain .adcAL,
   .plain .adcAAtHl,
   .plain .adcAA]

def baseRow9 : List Form :=
  [.plain .subB,
   .plain .subC,
   .plain .subD,
   .plain .subE,
   .plain .subH,
   .plain .subL,
   .plain .subAtHl,
   .plain .subA,
   .plain .sbcAB,
   .plain .sbcAC,
   .plain .sbcAD,
   .plain .sbcAE,
   .plain .sbcAH,
   .plain .sbcAL,
   .plain .sbcAAtHl,
   .plain .sbcAA]

def baseRowA : List Form :=
  [.plain .andB,
   .plain .andC,
   .plain .andD,
   .plain .andE,
   .plain .andH,
   .plain .andL,
   .plain .andAtHl,
   .plain .andA,
   .plain .xorB,
   .plain .xorC,
   .plain .xorD,
   .plain .xorE,
   .plain .xorH,
   .plain .xorL,
   .plain .xorAtHl,
   .plain .xorA]

def baseRowB : List Form :=
  [.plain .orB,
   .plain .orC,
   .plain .orD,
   .plain .orE,
   .plain .orH,
   .plain .orL,
   .plain .orAtHl,
   .plain .orA,
   .plain .cpB,
   .plain .cpC,
   .plain .cpD,
   .plain .cpE,
   .plain .cpH,
   .plain .cpL,
   .plain .cpAtHl,
   .plain .cpA]

def baseRowC : List Form :=
  [.plain .retNz,
   .plain .popBc,
   .word .jpNzNn,
   .word .jpNn,
   .word .callNzNn,
   .plain .pushBc,
   .byte .addAN,
   .plain .rst00,
   .plain .retZ,
   .plain .ret,
   .word .jpZNn,
   .prefixByte,
   .word .callZNn,
   .word .callNn,
   .byte .adcAN,
   .plain .rst08]

def baseRowD : List Form :=
  [.plain .retNc,
   .plain .popDe,
   .word .jpNcNn,
   .byte .outAtNA,
   .word .callNcNn,
   .plain .pushDe,
   .byte .subN,
   .plain .rst10,
   .plain .retC,
   .plain .exx,
   .word .jpCNn,
   .byte .inAAtN,
   .word .callCNn,
   .prefixByte,
   .byte .sbcAN,
   .plain .rst18]

def baseRowE : List Form :=
  [.plain .retPo,
   .plain .popHl,
   .word .jpPoNn,
   .plain .exAtSpHl,
   .word .callPoNn,
   .plain .pushHl,
   .byte .andN,
   .plain .rst20,
   .plain .retPe,
   .plain .jpAtHl,
   .word .jpPeNn,
   .plain .exDeHl,
   .word .callPeNn,
   .prefixByte,
   .byte .xorN,
   .plain .rst28]

def baseRowF : List Form :=
  [.plain .retP,
   .plain .popAf,
   .word .jpPNn,
   .plain .di,
   .word .callPNn,
   .plain .pushAf,
   .byte .orN,
   .plain .rst30,
   .plain .retM,
   .plain .ldSpHl,
   .word .jpMNn,
   .plain .ei,
   .word .callMNn,
   .prefixByte,
   .byte .cpN,
   .plain .rst38]

/-- The base map (R82), row by high nibble, column by low nibble. -/
def baseGrid : List (List Form) :=
  [baseRow0, baseRow1, baseRow2, baseRow3, baseRow4, baseRow5, baseRow6, baseRow7] ++
  [baseRow8, baseRow9, baseRowA, baseRowB, baseRowC, baseRowD, baseRowE, baseRowF]

def idxRow0 (ii : Idx) : List Form :=
  [.plain (.ignoredNop ii),
   .word (.ignoredLdBcNn ii),
   .plain (.ignoredLdAtBcA ii),
   .plain (.ignoredIncBc ii),
   .plain (.ignoredIncB ii),
   .plain (.ignoredDecB ii),
   .byte (.ignoredLdBN ii),
   .plain (.ignoredRlca ii),
   .plain (.ignoredExAfAf ii),
   .plain (.addIdxBc ii),
   .plain (.ignoredLdAAtBc ii),
   .plain (.ignoredDecBc ii),
   .plain (.ignoredIncC ii),
   .plain (.ignoredDecC ii),
   .byte (.ignoredLdCN ii),
   .plain (.ignoredRrca ii)]

def idxRow1 (ii : Idx) : List Form :=
  [.byte (.ignoredDjnzE ii),
   .word (.ignoredLdDeNn ii),
   .plain (.ignoredLdAtDeA ii),
   .plain (.ignoredIncDe ii),
   .plain (.ignoredIncD ii),
   .plain (.ignoredDecD ii),
   .byte (.ignoredLdDN ii),
   .plain (.ignoredRla ii),
   .byte (.ignoredJrE ii),
   .plain (.addIdxDe ii),
   .plain (.ignoredLdAAtDe ii),
   .plain (.ignoredDecDe ii),
   .plain (.ignoredIncE ii),
   .plain (.ignoredDecE ii),
   .byte (.ignoredLdEN ii),
   .plain (.ignoredRra ii)]

def idxRow2 (ii : Idx) : List Form :=
  [.byte (.ignoredJrNzE ii),
   .word (.ldIdxNn ii),
   .word (.ldAtNnIdx ii),
   .plain (.incIdx ii),
   .plain (.incIdxH ii),
   .plain (.decIdxH ii),
   .byte (.ldIdxHN ii),
   .plain (.ignoredDaa ii),
   .byte (.ignoredJrZE ii),
   .plain (.addIdxIdx ii),
   .word (.ldIdxAtNn ii),
   .plain (.decIdx ii),
   .plain (.incIdxL ii),
   .plain (.decIdxL ii),
   .byte (.ldIdxLN ii),
   .plain (.ignoredCpl ii)]

def idxRow3 (ii : Idx) : List Form :=
  [.byte (.ignoredJrNcE ii),
   .word (.ignoredLdSpNn ii),
   .word (.ignoredLdAtNnA ii),
   .plain (.ignoredIncSp ii),
   .byte (.incAtIdx ii),
   .byte (.decAtIdx ii),
   .bytes (.ldAtIdxN ii),
   .plain (.ignoredScf ii),
   .byte (.ignoredJrCE ii),
   .plain (.addIdxSp ii),
   .word (.ignoredLdAAtNn ii),
   .plain (.ignoredDecSp ii),
   .plain (.ignoredIncA ii),
   .plain (.ignoredDecA ii),
   .byte (.ignoredLdAN ii),
   .plain (.ignoredCcf ii)]

def idxRow4 (ii : Idx) : List Form :=
  [.plain (.ignoredLdBB ii),
   .plain (.ignoredLdBC ii),
   .plain (.ignoredLdBD ii),
   .plain (.ignoredLdBE ii),
   .plain (.ldBIdxH ii),
   .plain (.ldBIdxL ii),
   .byte (.ldBAtIdx ii),
   .plain (.ignoredLdBA ii),
   .plain (.ignoredLdCB ii),
   .plain (.ignoredLdCC ii),
   .plain (.ignoredLdCD ii),
   .plain (.ignoredLdCE ii),
   .plain (.ldCIdxH ii),
   .plain (.ldCIdxL ii),
   .byte (.ldCAtIdx ii),
   .plain (.ignoredLdCA ii)]

def idxRow5 (ii : Idx) : List Form :=
  [.plain (.ignoredLdDB ii),
   .plain (.ignoredLdDC ii),
   .plain (.ignoredLdDD ii),
   .plain (.ignoredLdDE ii),
   .plain (.ldDIdxH ii),
   .plain (.ldDIdxL ii),
   .byte (.ldDAtIdx ii),
   .plain (.ignoredLdDA ii),
   .plain (.ignoredLdEB ii),
   .plain (.ignoredLdEC ii),
   .plain (.ignoredLdED ii),
   .plain (.ignoredLdEE ii),
   .plain (.ldEIdxH ii),
   .plain (.ldEIdxL ii),
   .byte (.ldEAtIdx ii),
   .plain (.ignoredLdEA ii)]

def idxRow6 (ii : Idx) : List Form :=
  [.plain (.ldIdxHB ii),
   .plain (.ldIdxHC ii),
   .plain (.ldIdxHD ii),
   .plain (.ldIdxHE ii),
   .plain (.ldIdxHIdxH ii),
   .plain (.ldIdxHIdxL ii),
   .byte (.ldHAtIdx ii),
   .plain (.ldIdxHA ii),
   .plain (.ldIdxLB ii),
   .plain (.ldIdxLC ii),
   .plain (.ldIdxLD ii),
   .plain (.ldIdxLE ii),
   .plain (.ldIdxLIdxH ii),
   .plain (.ldIdxLIdxL ii),
   .byte (.ldLAtIdx ii),
   .plain (.ldIdxLA ii)]

def idxRow7 (ii : Idx) : List Form :=
  [.byte (.ldAtIdxB ii),
   .byte (.ldAtIdxC ii),
   .byte (.ldAtIdxD ii),
   .byte (.ldAtIdxE ii),
   .byte (.ldAtIdxH ii),
   .byte (.ldAtIdxL ii),
   .plain (.ignoredHalt ii),
   .byte (.ldAtIdxA ii),
   .plain (.ignoredLdAB ii),
   .plain (.ignoredLdAC ii),
   .plain (.ignoredLdAD ii),
   .plain (.ignoredLdAE ii),
   .plain (.ldAIdxH ii),
   .plain (.ldAIdxL ii),
   .byte (.ldAAtIdx ii),
   .plain (.ignoredLdAA ii)]

def idxRow8 (ii : Idx) : List Form :=
  [.plain (.ignoredAddAB ii),
   .plain (.ignoredAddAC ii),
   .plain (.ignoredAddAD ii),
   .plain (.ignoredAddAE ii),
   .plain (.addAIdxH ii),
   .plain (.addAIdxL ii),
   .byte (.addAAtIdx ii),
   .plain (.ignoredAddAA ii),
   .plain (.ignoredAdcAB ii),
   .plain (.ignoredAdcAC ii),
   .plain (.ignoredAdcAD ii),
   .plain (.ignoredAdcAE ii),
   .plain (.adcAIdxH ii),
   .plain (.adcAIdxL ii),
   .byte (.adcAAtIdx ii),
   .plain (.ignoredAdcAA ii)]

def idxRow9 (ii : Idx) : List Form :=
  [.plain (.ignoredSubB ii),
   .plain (.ignoredSubC ii),
   .plain (.ignoredSubD ii),
   .plain (.ignoredSubE ii),
   .plain (.subIdxH ii),
   .plain (.subIdxL ii),
   .byte (.subAtIdx ii),
   .plain (.ignoredSubA ii),
   .plain (.ignoredSbcAB ii),
   .plain (.ignoredSbcAC ii),
   .plain (.ignoredSbcAD ii),
   .plain (.ignoredSbcAE ii),
   .plain (.sbcAIdxH ii),
   .plain (.sbcAIdxL ii),
   .byte (.sbcAAtIdx ii),
   .plain (.ignoredSbcAA ii)]

def idxRowA (ii : Idx) : List Form :=
  [.plain (.ignoredAndB ii),
   .plain (.ignoredAndC ii),
   .plain (.ignoredAndD ii),
   .plain (.ignoredAndE ii),
   .plain (.andIdxH ii),
   .plain (.andIdxL ii),
   .byte (.andAtIdx ii),
   .plain (.ignoredAndA ii),
   .plain (.ignoredXorB ii),
   .plain (.ignoredXorC ii),
   .plain (.ignoredXorD ii),
   .plain (.ignoredXorE ii),
   .plain (.xorIdxH ii),
   .plain (.xorIdxL ii),
   .byte (.xorAtIdx ii),
   .plain (.ignoredXorA ii)]

def idxRowB (ii : Idx) : List Form :=
  [.plain (.ignoredOrB ii),
   .plain (.ignoredOrC ii),
   .plain (.ignoredOrD ii),
   .plain (.ignoredOrE ii),
   .plain (.orIdxH ii),
   .plain (.orIdxL ii),
   .byte (.orAtIdx ii),
   .plain (.ignoredOrA ii),
   .plain (.ignoredCpB ii),
   .plain (.ignoredCpC ii),
   .plain (.ignoredCpD ii),
   .plain (.ignoredCpE ii),
   .plain (.cpIdxH ii),
   .plain (.cpIdxL ii),
   .byte (.cpAtIdx ii),
   .plain (.ignoredCpA ii)]

def idxRowC (ii : Idx) : List Form :=
  [.plain (.ignoredRetNz ii),
   .plain (.ignoredPopBc ii),
   .word (.ignoredJpNzNn ii),
   .word (.ignoredJpNn ii),
   .word (.ignoredCallNzNn ii),
   .plain (.ignoredPushBc ii),
   .byte (.ignoredAddAN ii),
   .plain (.ignoredRst00 ii),
   .plain (.ignoredRetZ ii),
   .plain (.ignoredRet ii),
   .word (.ignoredJpZNn ii),
   .prefixByte,
   .word (.ignoredCallZNn ii),
   .word (.ignoredCallNn ii),
   .byte (.ignoredAdcAN ii),
   .plain (.ignoredRst08 ii)]

def idxRowD (ii : Idx) : List Form :=
  [.plain (.ignoredRetNc ii),
   .plain (.ignoredPopDe ii),
   .word (.ignoredJpNcNn ii),
   .byte (.ignoredOutAtNA ii),
   .word (.ignoredCallNcNn ii),
   .plain (.ignoredPushDe ii),
   .byte (.ignoredSubN ii),
   .plain (.ignoredRst10 ii),
   .plain (.ignoredRetC ii),
   .plain (.ignoredExx ii),
   .word (.ignoredJpCNn ii),
   .byte (.ignoredInAAtN ii),
   .word (.ignoredCallCNn ii),
   .prefixByte,
   .byte (.ignoredSbcAN ii),
   .plain (.ignoredRst18 ii)]

def idxRowE (ii : Idx) : List Form :=
  [.plain (.ignoredRetPo ii),
   .plain (.popIdx ii),
   .word (.ignoredJpPoNn ii),
   .plain (.exAtSpIdx ii),
   .word (.ignoredCallPoNn ii),
   .plain (.pushIdx ii),
   .byte (.ignoredAndN ii),
   .plain (.ignoredRst20 ii),
   .plain (.ignoredRetPe ii),
   .plain (.jpAtIdx ii),
   .word (.ignoredJpPeNn ii),
   .plain (.ignoredExDeHl ii),
   .word (.ignoredCallPeNn ii),
   .prefixByte,
   .byte (.ignoredXorN ii),
   .plain (.ignoredRst28 ii)]

def idxRowF (ii : Idx) : List Form :=
  [.plain (.ignoredRetP ii),
   .plain (.ignoredPopAf ii),
   .word (.ignoredJpPNn ii),
   .plain (.ignoredDi ii),
   .word (.ignoredCallPNn ii),
   .plain (.ignoredPushAf ii),
   .byte (.ignoredOrN ii),
   .plain (.ignoredRst30 ii),
   .plain (.ignoredRetM ii),
   .plain (.ldSpIdx ii),
   .word (.ignoredJpMNn ii),
   .plain (.ignoredEi ii),
   .word (.ignoredCallMNn ii),
   .prefixByte,
   .byte (.ignoredCpN ii),
   .plain (.ignoredRst38 ii)]

/-- The map of an indexed state (R83, R84, R266). -/
def idxGrid (ii : Idx) : List (List Form) :=
  [idxRow0 ii, idxRow1 ii, idxRow2 ii, idxRow3 ii, idxRow4 ii, idxRow5 ii, idxRow6 ii, idxRow7 ii] ++
  [idxRow8 ii, idxRow9 ii, idxRowA ii, idxRowB ii, idxRowC ii, idxRowD ii, idxRowE ii, idxRowF ii]

def edRow0 : List Form :=
  [.unassigned,
   .unassigned,
   .unassigned,
   .unassigned,
   .unassigned,
   .unassigned,
   .unassigned,
   .unassigned,
   .unassigned,
   .unassigned,
   .unassigned,
   .unassigned,
   .unassigned,
   .unassigned,
   .unassigned,
   .unassigned]

def edRow1 : List Form :=
  [.unassigned,
   .unassigned,
   .unassigned,
   .unassigned,
   .unassigned,
   .unassigned,
   .unassigned,
   .unassigned,
   .unassigned,
   .unassigned,
   .unassigned,
   .unassigned,
   .unassigned,
   .unassigned,
   .unassigned,
   .unassigned]

def edRow2 : List Form :=
  [.unassigned,
   .unassigned,
   .unassigned,
   .unassigned,
   .unassigned,
   .unassigned,
   .unassigned,
   .unassigned,
   .unassigned,
   .unassigned,
   .unassigned,
   .unassigned,
   .unassigned,
   .unassigned,
   .unassigned,
   .unassigned]

def edRow3 : List Form :=
  [.unassigned,
   .unassigned,
   .unassigned,
   .unassigned,
   .unassigned,
   .unassigned,
   .unassigned,
   .unassigned,
   .unassigned,
   .unassigned,
   .unassigned,
   .unassigned,
   .unassigned,
   .unassigned,
   .unassigned,
   .unassigned]

def edRow4 : List Form :=
  [.plain .inBAtC,
   .plain .outAtCB,
   .plain .sbcHlBc,
   .word .ldAtNnBc,
   .plain (.neg 0#3),
   .plain (.retn 0#3),
   .plain (.im0 0#3),
   .plain .ldIA,
   .plain .inCAtC,
   .plain .outAtCC,
   .plain .adcHlBc,
   .word .ldBcAtNn,
   .plain (.neg 1#3),
   .plain .reti,
   .plain (.im0 1#3),
   .plain .ldRA]

def edRow5 : List Form :=
  [.plain .inDAtC,
   .plain .outAtCD,
   .plain .sbcHlDe,
   .word .ldAtNnDe,
   .plain (.neg 2#3),
   .plain (.retn 2#3),
   .plain (.im1 2#3),
   .plain .ldAI,
   .plain .inEAtC,
   .plain .outAtCE,
   .plain .adcHlDe,
   .word .ldDeAtNn,
   .plain (.neg 3#3),
   .plain (.retn 3#3),
   .plain (.im2 3#3),
   .plain .ldAR]

def edRow6 : List Form :=
  [.plain .inHAtC,
   .plain .outAtCH,
   .plain .sbcHlHl,
   .word .ldAtNnHlEd,
   .plain (.neg 4#3),
   .plain (.retn 4#3),
   .plain (.im0 4#3),
   .plain .rrd,
   .plain .inLAtC,
   .plain .outAtCL,
   .plain .adcHlHl,
   .word .ldHlAtNnEd,
   .plain (.neg 5#3),
   .plain (.retn 5#3),
   .plain (.im0 5#3),
   .plain .rld]

def edRow7 : List Form :=
  [.plain .inFAtC,
   .plain .outAtC0,
   .plain .sbcHlSp,
   .word .ldAtNnSp,
   .plain (.neg 6#3),
   .plain (.retn 6#3),
   .plain (.im1 6#3),
   .unassigned,
   .plain .inAAtC,
   .plain .outAtCA,
   .plain .adcHlSp,
   .word .ldSpAtNn,
   .plain (.neg 7#3),
   .plain (.retn 7#3),
   .plain (.im2 7#3),
   .unassigned]

def edRow8 : List Form :=
  [.unassigned,
   .unassigned,
   .unassigned,
   .unassigned,
   .unassigned,
   .unassigned,
   .unassigned,
   .unassigned,
   .unassigned,
   .unassigned,
   .unassigned,
   .unassigned,
   .unassigned,
   .unassigned,
   .unassigned,
   .unassigned]

def edRow9 : List Form :=
  [.unassigned,
   .unassigned,
   .unassigned,
   .unassigned,
   .unassigned,
   .unassigned,
   .unassigned,
   .unassigned,
   .unassigned,
   .unassigned,
   .unassigned,
   .unassigned,
   .unassigned,
   .unassigned,
   .unassigned,
   .unassigned]

def edRowA : List Form :=
  [.plain .ldi,
   .plain .cpi,
   .plain .ini,
   .plain .outi,
   .unassigned,
   .unassigned,
   .unassigned,
   .unassigned,
   .plain .ldd,
   .plain .cpd,
   .plain .ind,
   .plain .outd,
   .unassigned,
   .unassigned,
   .unassigned,
   .unassigned]

def edRowB : List Form :=
  [.plain .ldir,
   .plain .cpir,
   .plain .inir,
   .plain .otir,
   .unassigned,
   .unassigned,
   .unassigned,
   .unassigned,
   .plain .lddr,
   .plain .cpdr,
   .plain .indr,
   .plain .otdr,
   .unassigned,
   .unassigned,
   .unassigned,
   .unassigned]

def edRowC : List Form :=
  [.unassigned,
   .unassigned,
   .unassigned,
   .unassigned,
   .unassigned,
   .unassigned,
   .unassigned,
   .unassigned,
   .unassigned,
   .unassigned,
   .unassigned,
   .unassigned,
   .unassigned,
   .unassigned,
   .unassigned,
   .unassigned]

def edRowD : List Form :=
  [.unassigned,
   .unassigned,
   .unassigned,
   .unassigned,
   .unassigned,
   .unassigned,
   .unassigned,
   .unassigned,
   .unassigned,
   .unassigned,
   .unassigned,
   .unassigned,
   .unassigned,
   .unassigned,
   .unassigned,
   .unassigned]

def edRowE : List Form :=
  [.unassigned,
   .unassigned,
   .unassigned,
   .unassigned,
   .unassigned,
   .unassigned,
   .unassigned,
   .unassigned,
   .unassigned,
   .unassigned,
   .unassigned,
   .unassigned,
   .unassigned,
   .unassigned,
   .unassigned,
   .unassigned]

def edRowF : List Form :=
  [.unassigned,
   .unassigned,
   .unassigned,
   .unassigned,
   .unassigned,
   .unassigned,
   .unassigned,
   .unassigned,
   .unassigned,
   .unassigned,
   .unassigned,
   .unassigned,
   .unassigned,
   .unassigned,
   .unassigned,
   .unassigned]

/-- The ED map (R87). -/
def edGrid : List (List Form) :=
  [edRow0, edRow1, edRow2, edRow3, edRow4, edRow5, edRow6, edRow7] ++
  [edRow8, edRow9, edRowA, edRowB, edRowC, edRowD, edRowE, edRowF]

def cbRow0 : List Instr :=
  [.rlcB,
   .rlcC,
   .rlcD,
   .rlcE,
   .rlcH,
   .rlcL,
   .rlcAtHl,
   .rlcA,
   .rrcB,
   .rrcC,
   .rrcD,
   .rrcE,
   .rrcH,
   .rrcL,
   .rrcAtHl,
   .rrcA]

def cbRow1 : List Instr :=
  [.rlB,
   .rlC,
   .rlD,
   .rlE,
   .rlH,
   .rlL,
   .rlAtHl,
   .rlA,
   .rrB,
   .rrC,
   .rrD,
   .rrE,
   .rrH,
   .rrL,
   .rrAtHl,
   .rrA]

def cbRow2 : List Instr :=
  [.slaB,
   .slaC,
   .slaD,
   .slaE,
   .slaH,
   .slaL,
   .slaAtHl,
   .slaA,
   .sraB,
   .sraC,
   .sraD,
   .sraE,
   .sraH,
   .sraL,
   .sraAtHl,
   .sraA]

def cbRow3 : List Instr :=
  [.sllB,
   .sllC,
   .sllD,
   .sllE,
   .sllH,
   .sllL,
   .sllAtHl,
   .sllA,
   .srlB,
   .srlC,
   .srlD,
   .srlE,
   .srlH,
   .srlL,
   .srlAtHl,
   .srlA]

def cbRow4 : List Instr :=
  [.bit0B,
   .bit0C,
   .bit0D,
   .bit0E,
   .bit0H,
   .bit0L,
   .bit0AtHl,
   .bit0A,
   .bit1B,
   .bit1C,
   .bit1D,
   .bit1E,
   .bit1H,
   .bit1L,
   .bit1AtHl,
   .bit1A]

def cbRow5 : List Instr :=
  [.bit2B,
   .bit2C,
   .bit2D,
   .bit2E,
   .bit2H,
   .bit2L,
   .bit2AtHl,
   .bit2A,
   .bit3B,
   .bit3C,
   .bit3D,
   .bit3E,
   .bit3H,
   .bit3L,
   .bit3AtHl,
   .bit3A]

def cbRow6 : List Instr :=
  [.bit4B,
   .bit4C,
   .bit4D,
   .bit4E,
   .bit4H,
   .bit4L,
   .bit4AtHl,
   .bit4A,
   .bit5B,
   .bit5C,
   .bit5D,
   .bit5E,
   .bit5H,
   .bit5L,
   .bit5AtHl,
   .bit5A]

def cbRow7 : List Instr :=
  [.bit6B,
   .bit6C,
   .bit6D,
   .bit6E,
   .bit6H,
   .bit6L,
   .bit6AtHl,
   .bit6A,
   .bit7B,
   .bit7C,
   .bit7D,
   .bit7E,
   .bit7H,
   .bit7L,
   .bit7AtHl,
   .bit7A]

def cbRow8 : List Instr :=
  [.res0B,
   .res0C,
   .res0D,
   .res0E,
   .res0H,
   .res0L,
   .res0AtHl,
   .res0A,
   .res1B,
   .res1C,
   .res1D,
   .res1E,
   .res1H,
   .res1L,
   .res1AtHl,
   .res1A]

def cbRow9 : List Instr :=
  [.res2B,
   .res2C,
   .res2D,
   .res2E,
   .res2H,
   .res2L,
   .res2AtHl,
   .res2A,
   .res3B,
   .res3C,
   .res3D,
   .res3E,
   .res3H,
   .res3L,
   .res3AtHl,
   .res3A]

def cbRowA : List Instr :=
  [.res4B,
   .res4C,
   .res4D,
   .res4E,
   .res4H,
   .res4L,
   .res4AtHl,
   .res4A,
   .res5B,
   .res5C,
   .res5D,
   .res5E,
   .res5H,
   .res5L,
   .res5AtHl,
   .res5A]

def cbRowB : List Instr :=
  [.res6B,
   .res6C,
   .res6D,
   .res6E,
   .res6H,
   .res6L,
   .res6AtHl,
   .res6A,
   .res7B,
   .res7C,
   .res7D,
   .res7E,
   .res7H,
   .res7L,
   .res7AtHl,
   .res7A]

def cbRowC : List Instr :=
  [.set0B,
   .set0C,
   .set0D,
   .set0E,
   .set0H,
   .set0L,
   .set0AtHl,
   .set0A,
   .set1B,
   .set1C,
   .set1D,
   .set1E,
   .set1H,
   .set1L,
   .set1AtHl,
   .set1A]

def cbRowD : List Instr :=
  [.set2B,
   .set2C,
   .set2D,
   .set2E,
   .set2H,
   .set2L,
   .set2AtHl,
   .set2A,
   .set3B,
   .set3C,
   .set3D,
   .set3E,
   .set3H,
   .set3L,
   .set3AtHl,
   .set3A]

def cbRowE : List Instr :=
  [.set4B,
   .set4C,
   .set4D,
   .set4E,
   .set4H,
   .set4L,
   .set4AtHl,
   .set4A,
   .set5B,
   .set5C,
   .set5D,
   .set5E,
   .set5H,
   .set5L,
   .set5AtHl,
   .set5A]

def cbRowF : List Instr :=
  [.set6B,
   .set6C,
   .set6D,
   .set6E,
   .set6H,
   .set6L,
   .set6AtHl,
   .set6A,
   .set7B,
   .set7C,
   .set7D,
   .set7E,
   .set7H,
   .set7L,
   .set7AtHl,
   .set7A]

/-- The CB map (R85). -/
def cbGrid : List (List Instr) :=
  [cbRow0, cbRow1, cbRow2, cbRow3, cbRow4, cbRow5, cbRow6, cbRow7] ++
  [cbRow8, cbRow9, cbRowA, cbRowB, cbRowC, cbRowD, cbRowE, cbRowF]

def idxCbRow0 (ii : Idx) (d : Byte) : List Instr :=
  [.rlcAtIdxB ii d,
   .rlcAtIdxC ii d,
   .rlcAtIdxD ii d,
   .rlcAtIdxE ii d,
   .rlcAtIdxH ii d,
   .rlcAtIdxL ii d,
   .rlcAtIdx ii d,
   .rlcAtIdxA ii d,
   .rrcAtIdxB ii d,
   .rrcAtIdxC ii d,
   .rrcAtIdxD ii d,
   .rrcAtIdxE ii d,
   .rrcAtIdxH ii d,
   .rrcAtIdxL ii d,
   .rrcAtIdx ii d,
   .rrcAtIdxA ii d]

def idxCbRow1 (ii : Idx) (d : Byte) : List Instr :=
  [.rlAtIdxB ii d,
   .rlAtIdxC ii d,
   .rlAtIdxD ii d,
   .rlAtIdxE ii d,
   .rlAtIdxH ii d,
   .rlAtIdxL ii d,
   .rlAtIdx ii d,
   .rlAtIdxA ii d,
   .rrAtIdxB ii d,
   .rrAtIdxC ii d,
   .rrAtIdxD ii d,
   .rrAtIdxE ii d,
   .rrAtIdxH ii d,
   .rrAtIdxL ii d,
   .rrAtIdx ii d,
   .rrAtIdxA ii d]

def idxCbRow2 (ii : Idx) (d : Byte) : List Instr :=
  [.slaAtIdxB ii d,
   .slaAtIdxC ii d,
   .slaAtIdxD ii d,
   .slaAtIdxE ii d,
   .slaAtIdxH ii d,
   .slaAtIdxL ii d,
   .slaAtIdx ii d,
   .slaAtIdxA ii d,
   .sraAtIdxB ii d,
   .sraAtIdxC ii d,
   .sraAtIdxD ii d,
   .sraAtIdxE ii d,
   .sraAtIdxH ii d,
   .sraAtIdxL ii d,
   .sraAtIdx ii d,
   .sraAtIdxA ii d]

def idxCbRow3 (ii : Idx) (d : Byte) : List Instr :=
  [.sllAtIdxB ii d,
   .sllAtIdxC ii d,
   .sllAtIdxD ii d,
   .sllAtIdxE ii d,
   .sllAtIdxH ii d,
   .sllAtIdxL ii d,
   .sllAtIdx ii d,
   .sllAtIdxA ii d,
   .srlAtIdxB ii d,
   .srlAtIdxC ii d,
   .srlAtIdxD ii d,
   .srlAtIdxE ii d,
   .srlAtIdxH ii d,
   .srlAtIdxL ii d,
   .srlAtIdx ii d,
   .srlAtIdxA ii d]

def idxCbRow4 (ii : Idx) (d : Byte) : List Instr :=
  [.bit0AtIdx ii d 0#3,
   .bit0AtIdx ii d 1#3,
   .bit0AtIdx ii d 2#3,
   .bit0AtIdx ii d 3#3,
   .bit0AtIdx ii d 4#3,
   .bit0AtIdx ii d 5#3,
   .bit0AtIdx ii d 6#3,
   .bit0AtIdx ii d 7#3,
   .bit1AtIdx ii d 0#3,
   .bit1AtIdx ii d 1#3,
   .bit1AtIdx ii d 2#3,
   .bit1AtIdx ii d 3#3,
   .bit1AtIdx ii d 4#3,
   .bit1AtIdx ii d 5#3,
   .bit1AtIdx ii d 6#3,
   .bit1AtIdx ii d 7#3]

def idxCbRow5 (ii : Idx) (d : Byte) : List Instr :=
  [.bit2AtIdx ii d 0#3,
   .bit2AtIdx ii d 1#3,
   .bit2AtIdx ii d 2#3,
   .bit2AtIdx ii d 3#3,
   .bit2AtIdx ii d 4#3,
   .bit2AtIdx ii d 5#3,
   .bit2AtIdx ii d 6#3,
   .bit2AtIdx ii d 7#3,
   .bit3AtIdx ii d 0#3,
   .bit3AtIdx ii d 1#3,
   .bit3AtIdx ii d 2#3,
   .bit3AtIdx ii d 3#3,
   .bit3AtIdx ii d 4#3,
   .bit3AtIdx ii d 5#3,
   .bit3AtIdx ii d 6#3,
   .bit3AtIdx ii d 7#3]

def idxCbRow6 (ii : Idx) (d : Byte) : List Instr :=
  [.bit4AtIdx ii d 0#3,
   .bit4AtIdx ii d 1#3,
   .bit4AtIdx ii d 2#3,
   .bit4AtIdx ii d 3#3,
   .bit4AtIdx ii d 4#3,
   .bit4AtIdx ii d 5#3,
   .bit4AtIdx ii d 6#3,
   .bit4AtIdx ii d 7#3,
   .bit5AtIdx ii d 0#3,
   .bit5AtIdx ii d 1#3,
   .bit5AtIdx ii d 2#3,
   .bit5AtIdx ii d 3#3,
   .bit5AtIdx ii d 4#3,
   .bit5AtIdx ii d 5#3,
   .bit5AtIdx ii d 6#3,
   .bit5AtIdx ii d 7#3]

def idxCbRow7 (ii : Idx) (d : Byte) : List Instr :=
  [.bit6AtIdx ii d 0#3,
   .bit6AtIdx ii d 1#3,
   .bit6AtIdx ii d 2#3,
   .bit6AtIdx ii d 3#3,
   .bit6AtIdx ii d 4#3,
   .bit6AtIdx ii d 5#3,
   .bit6AtIdx ii d 6#3,
   .bit6AtIdx ii d 7#3,
   .bit7AtIdx ii d 0#3,
   .bit7AtIdx ii d 1#3,
   .bit7AtIdx ii d 2#3,
   .bit7AtIdx ii d 3#3,
   .bit7AtIdx ii d 4#3,
   .bit7AtIdx ii d 5#3,
   .bit7AtIdx ii d 6#3,
   .bit7AtIdx ii d 7#3]

def idxCbRow8 (ii : Idx) (d : Byte) : List Instr :=
  [.res0AtIdxB ii d,
   .res0AtIdxC ii d,
   .res0AtIdxD ii d,
   .res0AtIdxE ii d,
   .res0AtIdxH ii d,
   .res0AtIdxL ii d,
   .res0AtIdx ii d,
   .res0AtIdxA ii d,
   .res1AtIdxB ii d,
   .res1AtIdxC ii d,
   .res1AtIdxD ii d,
   .res1AtIdxE ii d,
   .res1AtIdxH ii d,
   .res1AtIdxL ii d,
   .res1AtIdx ii d,
   .res1AtIdxA ii d]

def idxCbRow9 (ii : Idx) (d : Byte) : List Instr :=
  [.res2AtIdxB ii d,
   .res2AtIdxC ii d,
   .res2AtIdxD ii d,
   .res2AtIdxE ii d,
   .res2AtIdxH ii d,
   .res2AtIdxL ii d,
   .res2AtIdx ii d,
   .res2AtIdxA ii d,
   .res3AtIdxB ii d,
   .res3AtIdxC ii d,
   .res3AtIdxD ii d,
   .res3AtIdxE ii d,
   .res3AtIdxH ii d,
   .res3AtIdxL ii d,
   .res3AtIdx ii d,
   .res3AtIdxA ii d]

def idxCbRowA (ii : Idx) (d : Byte) : List Instr :=
  [.res4AtIdxB ii d,
   .res4AtIdxC ii d,
   .res4AtIdxD ii d,
   .res4AtIdxE ii d,
   .res4AtIdxH ii d,
   .res4AtIdxL ii d,
   .res4AtIdx ii d,
   .res4AtIdxA ii d,
   .res5AtIdxB ii d,
   .res5AtIdxC ii d,
   .res5AtIdxD ii d,
   .res5AtIdxE ii d,
   .res5AtIdxH ii d,
   .res5AtIdxL ii d,
   .res5AtIdx ii d,
   .res5AtIdxA ii d]

def idxCbRowB (ii : Idx) (d : Byte) : List Instr :=
  [.res6AtIdxB ii d,
   .res6AtIdxC ii d,
   .res6AtIdxD ii d,
   .res6AtIdxE ii d,
   .res6AtIdxH ii d,
   .res6AtIdxL ii d,
   .res6AtIdx ii d,
   .res6AtIdxA ii d,
   .res7AtIdxB ii d,
   .res7AtIdxC ii d,
   .res7AtIdxD ii d,
   .res7AtIdxE ii d,
   .res7AtIdxH ii d,
   .res7AtIdxL ii d,
   .res7AtIdx ii d,
   .res7AtIdxA ii d]

def idxCbRowC (ii : Idx) (d : Byte) : List Instr :=
  [.set0AtIdxB ii d,
   .set0AtIdxC ii d,
   .set0AtIdxD ii d,
   .set0AtIdxE ii d,
   .set0AtIdxH ii d,
   .set0AtIdxL ii d,
   .set0AtIdx ii d,
   .set0AtIdxA ii d,
   .set1AtIdxB ii d,
   .set1AtIdxC ii d,
   .set1AtIdxD ii d,
   .set1AtIdxE ii d,
   .set1AtIdxH ii d,
   .set1AtIdxL ii d,
   .set1AtIdx ii d,
   .set1AtIdxA ii d]

def idxCbRowD (ii : Idx) (d : Byte) : List Instr :=
  [.set2AtIdxB ii d,
   .set2AtIdxC ii d,
   .set2AtIdxD ii d,
   .set2AtIdxE ii d,
   .set2AtIdxH ii d,
   .set2AtIdxL ii d,
   .set2AtIdx ii d,
   .set2AtIdxA ii d,
   .set3AtIdxB ii d,
   .set3AtIdxC ii d,
   .set3AtIdxD ii d,
   .set3AtIdxE ii d,
   .set3AtIdxH ii d,
   .set3AtIdxL ii d,
   .set3AtIdx ii d,
   .set3AtIdxA ii d]

def idxCbRowE (ii : Idx) (d : Byte) : List Instr :=
  [.set4AtIdxB ii d,
   .set4AtIdxC ii d,
   .set4AtIdxD ii d,
   .set4AtIdxE ii d,
   .set4AtIdxH ii d,
   .set4AtIdxL ii d,
   .set4AtIdx ii d,
   .set4AtIdxA ii d,
   .set5AtIdxB ii d,
   .set5AtIdxC ii d,
   .set5AtIdxD ii d,
   .set5AtIdxE ii d,
   .set5AtIdxH ii d,
   .set5AtIdxL ii d,
   .set5AtIdx ii d,
   .set5AtIdxA ii d]

def idxCbRowF (ii : Idx) (d : Byte) : List Instr :=
  [.set6AtIdxB ii d,
   .set6AtIdxC ii d,
   .set6AtIdxD ii d,
   .set6AtIdxE ii d,
   .set6AtIdxH ii d,
   .set6AtIdxL ii d,
   .set6AtIdx ii d,
   .set6AtIdxA ii d,
   .set7AtIdxB ii d,
   .set7AtIdxC ii d,
   .set7AtIdxD ii d,
   .set7AtIdxE ii d,
   .set7AtIdxH ii d,
   .set7AtIdxL ii d,
   .set7AtIdx ii d,
   .set7AtIdxA ii d]

/-- The DDCB and FDCB map (R86). -/
def idxCbGrid (ii : Idx) (d : Byte) : List (List Instr) :=
  [idxCbRow0 ii d, idxCbRow1 ii d, idxCbRow2 ii d, idxCbRow3 ii d, idxCbRow4 ii d, idxCbRow5 ii d, idxCbRow6 ii d, idxCbRow7 ii d] ++
  [idxCbRow8 ii d, idxCbRow9 ii d, idxCbRowA ii d, idxCbRowB ii d, idxCbRowC ii d, idxCbRowD ii d, idxCbRowE ii d, idxCbRowF ii d]

/-- The cell of an opcode byte: row by high nibble, column by low nibble. -/
def gridAt {α : Type} (g : List (List α)) (op : Byte) : Option α :=
  match g[op.toNat / 16]? with
  | none => none
  | some row => row[op.toNat % 16]?

/-- A cell with its operand bytes, `size` bytes having been fetched before them and `op` being the opcode byte. -/
def Form.take (f : Form) (op : Byte) (size : Nat) (rest : List Byte) : Except DecodeError Decoded :=
  match f with
  | .plain i => .ok ⟨i, size⟩
  | .byte g =>
    match rest with
    | b :: _ => .ok ⟨g b, size + 1⟩
    | [] => .error .outOfBytes
  | .word g =>
    match rest with
    | lo :: hi :: _ => .ok ⟨g (pack hi lo), size + 2⟩
    | [_] => .error .outOfBytes
    | [] => .error .outOfBytes
  | .bytes g =>
    match rest with
    | d :: n :: _ => .ok ⟨g d n, size + 2⟩
    | [_] => .error .outOfBytes
    | [] => .error .outOfBytes
  | .prefixByte => .error (.noSuchEntry op)
  | .unassigned => .ok ⟨.nopStar op, size⟩

/-- A cell that may be missing. -/
def takeAt (f : Option Form) (op : Byte) (size : Nat) (rest : List Byte) : Except DecodeError Decoded :=
  match f with
  | some f => f.take op size rest
  | none => .error (.noSuchEntry op)

/-- State EXTENDED: the bytes after ED, `size` bytes being fetched up to and with the opcode byte (R71). -/
def decodeEd (size : Nat) (bytes : List Byte) : Except DecodeError Decoded :=
  match bytes with
  | [] => .error .outOfBytes
  | op :: rest => takeAt (gridAt edGrid op) op size rest

/-- State BIT: the byte after CB (R71, R85). -/
def decodeCb (bytes : List Byte) : Except DecodeError Decoded :=
  match bytes with
  | [] => .error .outOfBytes
  | op :: _ =>
    match gridAt cbGrid op with
    | some i => .ok ⟨i, 2⟩
    | none => .error (.noSuchEntry op)

/-- State INDEXED_BIT: d, then the opcode byte (R63, R86); k prefix bytes were fetched before CB. -/
def decodeIdxCb (ii : Idx) (k : Nat) (bytes : List Byte) : Except DecodeError Decoded :=
  match bytes with
  | [] => .error .outOfBytes
  | [_] => .error .outOfBytes
  | d :: op :: _ =>
    match gridAt (idxCbGrid ii d) op with
    | some i => .ok ⟨i, k + 3⟩
    | none => .error (.noSuchEntry op)

/-- An ED instruction whose index prefix is discarded (R89). -/
def withIgnoredPrefix (ii : Idx) (r : Except DecodeError Decoded) : Except DecodeError Decoded :=
  match r with
  | .error e => .error e
  | .ok d =>
    match d.instr.op with
    | .ed o => .ok ⟨.ignoredEd ii o, d.size⟩
    | .base _ => .error (.noSuchEntry 0xED#8)
    | .cb _ => .error (.noSuchEntry 0xED#8)
    | .idx _ _ => .error (.noSuchEntry 0xED#8)
    | .idxCb _ _ _ => .error (.noSuchEntry 0xED#8)
    | .ignored _ _ => .error (.noSuchEntry 0xED#8)
    | .ignoredEd _ _ => .error (.noSuchEntry 0xED#8)
    | .redundant _ _ => .error (.noSuchEntry 0xED#8)

/-- State INDEXED_X or INDEXED_Y; k is 1 when the prefix was fetched in this step and 0 when it was pending (R71, R72,
R88). -/
def decodeIndexed (ii : Idx) (k : Nat) (bytes : List Byte) : Except DecodeError Decoded :=
  match bytes with
  | [] => .error .outOfBytes
  | op :: rest =>
    if op = 0xCB#8 then decodeIdxCb ii k rest
    else if op = 0xED#8 then withIgnoredPrefix ii (decodeEd (k + 2) rest)
    else if op = 0xDD#8 then .ok ⟨.redundantPrefix ii .ix, k + 1⟩
    else if op = 0xFD#8 then .ok ⟨.redundantPrefix ii .iy, k + 1⟩
    else takeAt (gridAt (idxGrid ii) op) op (k + 1) rest

/-- State BASE (R71, R72). -/
def decodeBase (bytes : List Byte) : Except DecodeError Decoded :=
  match bytes with
  | [] => .error .outOfBytes
  | op :: rest =>
    if op = 0xCB#8 then decodeCb rest
    else if op = 0xED#8 then decodeEd 2 rest
    else if op = 0xDD#8 then decodeIndexed .ix 1 rest
    else if op = 0xFD#8 then decodeIndexed .iy 1 rest
    else takeAt (gridAt baseGrid op) op 1 rest

/-- `Decode()` without its execution: a pending prefix starts it in the indexed state (R71, R72). -/
def decode (pending : Option Idx) (bytes : List Byte) : Except DecodeError Decoded :=
  match pending with
  | none => decodeBase bytes
  | some ii => decodeIndexed ii 0 bytes

/-- An opcode byte from its fields x, y and z (R73). -/
def opByte (x : BitVec 2) (y z : BitVec 3) : Byte := x ++ y ++ z

/-- Field y from p and q (R73). -/
def yOf (p : BitVec 2) (q : BitVec 1) : BitVec 3 := p ++ q

/-- An immediate word, low byte first (R75). -/
def wordBytes (nn : Word) : List Byte := [loByte nn, hiByte nn]

/-- The field of a register (R76). -/
def Reg8.code (r : Reg8) : BitVec 3 :=
  match r with
  | .b => 0#3
  | .c => 1#3
  | .d => 2#3
  | .e => 3#3
  | .h => 4#3
  | .l => 5#3
  | .a => 7#3

/-- The field value that means (HL), or no register copy under DDCB and FDCB (R76, R86). -/
def memCode : BitVec 3 := 6#3

/-- Field z of the register copy of a DDCB or FDCB instruction (R86). -/
def copyCode (copy : Option Reg8) : BitVec 3 :=
  match copy with
  | none => memCode
  | some r => r.code

/-- The field of a half of an index register: 4 and 5 (R83). -/
def Half.code (x : Half) : BitVec 3 :=
  match x with
  | .high => 4#3
  | .low => 5#3

/-- The field of a pair (R77). -/
def Pair.code (p : Pair) : BitVec 2 :=
  match p with
  | .bc => 0#2
  | .de => 1#2
  | .hl => 2#2
  | .sp => 3#2

/-- The field of a PUSH or POP pair (R77). -/
def StackPair.code (q : StackPair) : BitVec 2 :=
  match q with
  | .bc => 0#2
  | .de => 1#2
  | .hl => 2#2
  | .af => 3#2

/-- The field of an address pair (R112). -/
def AddrPair.code (rr : AddrPair) : BitVec 2 :=
  match rr with
  | .bc => 0#2
  | .de => 1#2

/-- The condition field (R79). -/
def Cond.code (cc : Cond) : BitVec 3 :=
  match cc with
  | .nz => 0#3
  | .z => 1#3
  | .nc => 2#3
  | .c => 3#3
  | .po => 4#3
  | .pe => 5#3
  | .p => 6#3
  | .m => 7#3

/-- Field y of JR cc: the condition plus 4 (R79, R233). -/
def JrCond.code (cc : JrCond) : BitVec 3 :=
  match cc with
  | .nz => 4#3
  | .z => 5#3
  | .nc => 6#3
  | .c => 7#3

/-- The ALU field (R78). -/
def Alu.code (k : Alu) : BitVec 3 :=
  match k with
  | .add => 0#3
  | .adc => 1#3
  | .sub => 2#3
  | .sbc => 3#3
  | .and => 4#3
  | .xor => 5#3
  | .or => 6#3
  | .cp => 7#3

/-- The rotate field (R78). -/
def Rot.code (k : Rot) : BitVec 3 :=
  match k with
  | .rlc => 0#3
  | .rrc => 1#3
  | .rl => 2#3
  | .rr => 3#3
  | .sla => 4#3
  | .sra => 5#3
  | .sll => 6#3
  | .srl => 7#3

/-- Field y of a block instruction: 4 forward, 5 backward, 2 more when it repeats (R87). -/
def blockCode (d : Dir) (rep : Bool) : BitVec 3 :=
  match d, rep with
  | .inc, false => 4#3
  | .dec, false => 5#3
  | .inc, true => 6#3
  | .dec, true => 7#3

/-- The prefix byte of an index register (R71). -/
def Idx.byte (ii : Idx) : Byte :=
  match ii with
  | .ix => 0xDD#8
  | .iy => 0xFD#8

/-- The bytes of an unprefixed instruction (R82). -/
def BaseOp.bytes (o : BaseOp) : List Byte :=
  match o with
  | .nop => [opByte 0#2 0#3 0#3]
  | .exAfAf => [opByte 0#2 1#3 0#3]
  | .djnz e => [opByte 0#2 2#3 0#3, e]
  | .jr e => [opByte 0#2 3#3 0#3, e]
  | .jrCc cc e => [opByte 0#2 cc.code 0#3, e]
  | .ldPairN p nn => opByte 0#2 (yOf p.code 0#1) 1#3 :: wordBytes nn
  | .addHl p => [opByte 0#2 (yOf p.code 1#1) 1#3]
  | .stA rr => [opByte 0#2 (yOf rr.code 0#1) 2#3]
  | .ldA rr => [opByte 0#2 (yOf rr.code 1#1) 2#3]
  | .stHl nn => opByte 0#2 4#3 2#3 :: wordBytes nn
  | .ldHl nn => opByte 0#2 5#3 2#3 :: wordBytes nn
  | .stAAbs nn => opByte 0#2 6#3 2#3 :: wordBytes nn
  | .ldAAbs nn => opByte 0#2 7#3 2#3 :: wordBytes nn
  | .incPair p => [opByte 0#2 (yOf p.code 0#1) 3#3]
  | .decPair p => [opByte 0#2 (yOf p.code 1#1) 3#3]
  | .incReg r => [opByte 0#2 r.code 4#3]
  | .incMem => [opByte 0#2 memCode 4#3]
  | .decReg r => [opByte 0#2 r.code 5#3]
  | .decMem => [opByte 0#2 memCode 5#3]
  | .ldRegN r n => [opByte 0#2 r.code 6#3, n]
  | .ldMemN n => [opByte 0#2 memCode 6#3, n]
  | .rlca => [opByte 0#2 0#3 7#3]
  | .rrca => [opByte 0#2 1#3 7#3]
  | .rla => [opByte 0#2 2#3 7#3]
  | .rra => [opByte 0#2 3#3 7#3]
  | .daa => [opByte 0#2 4#3 7#3]
  | .cpl => [opByte 0#2 5#3 7#3]
  | .scf => [opByte 0#2 6#3 7#3]
  | .ccf => [opByte 0#2 7#3 7#3]
  | .halt => [opByte 1#2 6#3 6#3]
  | .ldRegReg dst src => [opByte 1#2 dst.code src.code]
  | .ldRegMem r => [opByte 1#2 r.code memCode]
  | .ldMemReg r => [opByte 1#2 memCode r.code]
  | .aluReg k r => [opByte 2#2 k.code r.code]
  | .aluMem k => [opByte 2#2 k.code memCode]
  | .retCc cc => [opByte 3#2 cc.code 0#3]
  | .pop q => [opByte 3#2 (yOf q.code 0#1) 1#3]
  | .ret => [opByte 3#2 1#3 1#3]
  | .exx => [opByte 3#2 3#3 1#3]
  | .jpHl => [opByte 3#2 5#3 1#3]
  | .ldSpHl => [opByte 3#2 7#3 1#3]
  | .jpCc cc nn => opByte 3#2 cc.code 2#3 :: wordBytes nn
  | .jp nn => opByte 3#2 0#3 3#3 :: wordBytes nn
  | .outNA n => [opByte 3#2 2#3 3#3, n]
  | .inAN n => [opByte 3#2 3#3 3#3, n]
  | .exSpHl => [opByte 3#2 4#3 3#3]
  | .exDeHl => [opByte 3#2 5#3 3#3]
  | .di => [opByte 3#2 6#3 3#3]
  | .ei => [opByte 3#2 7#3 3#3]
  | .callCc cc nn => opByte 3#2 cc.code 4#3 :: wordBytes nn
  | .push q => [opByte 3#2 (yOf q.code 0#1) 5#3]
  | .call nn => opByte 3#2 1#3 5#3 :: wordBytes nn
  | .aluN k n => [opByte 3#2 k.code 6#3, n]
  | .rst y => [opByte 3#2 y 7#3]

/-- The byte after CB (R85). -/
def CbOp.byte (o : CbOp) : Byte :=
  match o with
  | .rotReg k r => opByte 0#2 k.code r.code
  | .rotMem k => opByte 0#2 k.code memCode
  | .bitReg b r => opByte 1#2 b r.code
  | .bitMem b => opByte 1#2 b memCode
  | .resReg b r => opByte 2#2 b r.code
  | .resMem b => opByte 2#2 b memCode
  | .setReg b r => opByte 3#2 b r.code
  | .setMem b => opByte 3#2 b memCode

/-- The bytes after ED (R87). -/
def EdOp.bytes (o : EdOp) : List Byte :=
  match o with
  | .inReg r => [opByte 1#2 r.code 0#3]
  | .inF => [opByte 1#2 6#3 0#3]
  | .outReg r => [opByte 1#2 r.code 1#3]
  | .outZero => [opByte 1#2 6#3 1#3]
  | .sbcHl p => [opByte 1#2 (yOf p.code 0#1) 2#3]
  | .adcHl p => [opByte 1#2 (yOf p.code 1#1) 2#3]
  | .stPair nn p => opByte 1#2 (yOf p.code 0#1) 3#3 :: wordBytes nn
  | .ldPair p nn => opByte 1#2 (yOf p.code 1#1) 3#3 :: wordBytes nn
  | .neg y => [opByte 1#2 y 4#3]
  | .retn y => [opByte 1#2 y 5#3]
  | .reti => [opByte 1#2 1#3 5#3]
  | .im _ y => [opByte 1#2 y 6#3]
  | .ldIA => [opByte 1#2 0#3 7#3]
  | .ldRA => [opByte 1#2 1#3 7#3]
  | .ldAI => [opByte 1#2 2#3 7#3]
  | .ldAR => [opByte 1#2 3#3 7#3]
  | .rrd => [opByte 1#2 4#3 7#3]
  | .rld => [opByte 1#2 5#3 7#3]
  | .blockLd d rep => [opByte 2#2 (blockCode d rep) 0#3]
  | .blockCp d rep => [opByte 2#2 (blockCode d rep) 1#3]
  | .blockIn d rep => [opByte 2#2 (blockCode d rep) 2#3]
  | .blockOut d rep => [opByte 2#2 (blockCode d rep) 3#3]
  | .nopStar op => [op]

/-- The bytes after DD or FD of an instruction the prefix affects: the base opcode with HL, H, L and (HL) at the
substituted operand, d right after the opcode byte (R83). -/
def IdxOp.bytes (o : IdxOp) : List Byte :=
  match o with
  | .add p => [opByte 0#2 (yOf p.code 1#1) 1#3]
  | .ldN nn => opByte 0#2 4#3 1#3 :: wordBytes nn
  | .st nn => opByte 0#2 4#3 2#3 :: wordBytes nn
  | .ld nn => opByte 0#2 5#3 2#3 :: wordBytes nn
  | .inc => [opByte 0#2 4#3 3#3]
  | .dec => [opByte 0#2 5#3 3#3]
  | .incHalf x => [opByte 0#2 x.code 4#3]
  | .decHalf x => [opByte 0#2 x.code 5#3]
  | .ldHalfN x n => [opByte 0#2 x.code 6#3, n]
  | .incMem d => [opByte 0#2 memCode 4#3, d]
  | .decMem d => [opByte 0#2 memCode 5#3, d]
  | .ldMemN d n => [opByte 0#2 memCode 6#3, d, n]
  | .ldRegReg dst src => [opByte 1#2 dst.code src.code]
  | .ldRegMem r d => [opByte 1#2 r.code memCode, d]
  | .ldMemReg d r => [opByte 1#2 memCode r.code, d]
  | .aluHalf k x => [opByte 2#2 k.code x.code]
  | .aluMem k d => [opByte 2#2 k.code memCode, d]
  | .pop => [opByte 3#2 4#3 1#3]
  | .push => [opByte 3#2 4#3 5#3]
  | .exSp => [opByte 3#2 4#3 3#3]
  | .jp => [opByte 3#2 5#3 1#3]
  | .ldSp => [opByte 3#2 7#3 1#3]

/-- The last byte of a DDCB or FDCB instruction (R86). -/
def IdxCbOp.byte (o : IdxCbOp) : Byte :=
  match o with
  | .rot k copy => opByte 0#2 k.code (copyCode copy)
  | .bit b z => opByte 1#2 b z
  | .res b copy => opByte 2#2 b (copyCode copy)
  | .set b copy => opByte 3#2 b (copyCode copy)

/-- The bytes of an operation (R70, R71). -/
def Op.bytes (o : Op) : List Byte :=
  match o with
  | .base o => o.bytes
  | .cb o => [0xCB#8, o.byte]
  | .ed o => 0xED#8 :: o.bytes
  | .idx ii o => ii.byte :: o.bytes
  | .idxCb ii d o => [ii.byte, 0xCB#8, d, o.byte]
  | .ignored ii o => ii.byte :: o.bytes
  | .ignoredEd ii o => ii.byte :: 0xED#8 :: o.bytes
  | .redundant first second => [first.byte, second.byte]

/-- The bytes of an instruction, in stream order. -/
def encode (i : Instr) : List Byte := i.op.bytes

/-- Five bytes of an instruction word numbered as spec/opcode_table.json numbers its bits, those above nbits zero. -/
def tableBytes (nbits w : Nat) : List Byte :=
  [BitVec.ofNat 8 (w % 2 ^ nbits), BitVec.ofNat 8 (w % 2 ^ nbits / 2 ^ 8), BitVec.ofNat 8 (w % 2 ^ nbits / 2 ^ 16),
   BitVec.ofNat 8 (w % 2 ^ nbits / 2 ^ 24), BitVec.ofNat 8 (w % 2 ^ nbits / 2 ^ 32)]

/-- The instruction the decoder reads from such a word. -/
def decodeTableWord (nbits w : Nat) : Option Instr :=
  match decode none (tableBytes nbits w) with
  | .ok d => some d.instr
  | .error _ => none

end

end Sys2Proof
end

