-- ==== Sys2Proof/Config.lean ====
section
/-! DEFINITION. What one core is built with: the seven parameters of R8, and the free values that
stand for the host's answers once its script is used up. -/

namespace Sys2Proof

/-- `BLOCK_REPEAT_FLAGS` (R8, R158). -/
inductive BlockRepeatFlags
  | classic
  | pcBased
  deriving DecidableEq, Repr

/-- `SCF_CCF_YX` (R8, R182). -/
inductive ScfCcfYx
  | aOnly
  | qModel
  deriving DecidableEq, Repr

/-- The named parameters the model takes as arguments (R8). -/
structure Params where
  /-- `IM0_VECTOR`: where an interrupt accepted in IM 0 goes (R311). -/
  im0Vector : Word
  /-- `M1_WAIT`: extra cycles per M1 cycle, any natural number (R8, R16, R300; notes/assumptions/21.md). -/
  m1Wait : Nat
  /-- `OUT_C_ZERO_VALUE`: the byte ED 71 writes (R255). -/
  outCZeroValue : Byte
  /-- `RESET_FILL`: what reset() gives each pair of both banks, IX and IY (R39). -/
  resetFill : Word
  /-- `RESET_SP` (R39). -/
  resetSp : Word
  /-- `BLOCK_REPEAT_FLAGS` (R158). -/
  blockRepeatFlags : BlockRepeatFlags
  /-- `SCF_CCF_YX` (R182). -/
  scfCcfYx : ScfCcfYx
  deriving DecidableEq, Repr

/-- The value R8 takes for each parameter. -/
def Params.default : Params where
  im0Vector := 0x0038#16
  m1Wait := 0
  outCZeroValue := 0x00#8
  resetFill := 0xFFFF#16
  resetSp := 0xFFFF#16
  blockRepeatFlags := .classic
  scfCcfYx := .aOnly

/-- The k-th byte `read_io` returns after the script is used up: an oracle answer, nothing constrains it
(R52, R54; notes/assumptions/3.md). -/
opaque Config.freeIoByte : Nat → Byte

/-- The k-th byte `vector_low_byte()` returns after the script is used up: an oracle answer, nothing
constrains it (R314; notes/assumptions/4.md). -/
opaque Config.freeVectorByte : Nat → Byte

/-- The k-th answer of `poll_pending()` after the script is used up: an oracle answer, nothing constrains it (R304, D39;
notes/assumptions/5.md). -/
opaque Config.freePoll : Nat → Bool

end Sys2Proof
end

