-- ==== Sys2Proof/Machine/Flags.lean ====
section
/-! DEFINITION. The flag register's bits (R24) and every computation that gives a result and its flags:
8-bit and 16-bit arithmetic, logic, DAA, rotates and shifts, BIT, and the block flags. -/

namespace Sys2Proof.Machine

/-- F.S, bit 7 (R24). -/
def flagS (f : Byte) : Bool := f.getLsbD 7
/-- F.Z, bit 6 (R24). -/
def flagZ (f : Byte) : Bool := f.getLsbD 6
/-- F.Y, bit 5 (R24). -/
def flagY (f : Byte) : Bool := f.getLsbD 5
/-- F.H, bit 4 (R24). -/
def flagH (f : Byte) : Bool := f.getLsbD 4
/-- F.X, bit 3 (R24). -/
def flagX (f : Byte) : Bool := f.getLsbD 3
/-- F.PV, bit 2 (R24). -/
def flagPV (f : Byte) : Bool := f.getLsbD 2
/-- F.N, bit 1 (R24). -/
def flagN (f : Byte) : Bool := f.getLsbD 1
/-- F.C, bit 0 (R24). -/
def flagC (f : Byte) : Bool := f.getLsbD 0

/-- F from its eight flags, S in bit 7 to C in bit 0 (R24). -/
def packF (s z y h x pv n c : Bool) : Byte :=
  BitVec.ofBool s ++ BitVec.ofBool z ++ BitVec.ofBool y ++ BitVec.ofBool h ++
    BitVec.ofBool x ++ BitVec.ofBool pv ++ BitVec.ofBool n ++ BitVec.ofBool c

/-- `SZYX(v)` of R12 with the other four flags given. -/
def szyx (v : Byte) (h pv n c : Bool) : Byte :=
  packF (v.getLsbD 7) (v == 0#8) (v.getLsbD 5) h (v.getLsbD 3) pv n c

/-- `cond(cc)` (R79). -/
def condHolds (cc : Cond) (f : Byte) : Bool :=
  match cc with
  | .nz => !flagZ f
  | .z => flagZ f
  | .nc => !flagC f
  | .c => flagC f
  | .po => !flagPV f
  | .pe => flagPV f
  | .p => !flagS f
  | .m => flagS f

/-- The condition of JR (R79, R233). -/
def jrCondHolds (cc : JrCond) (f : Byte) : Bool :=
  match cc with
  | .nz => !flagZ f
  | .z => flagZ f
  | .nc => !flagC f
  | .c => flagC f

/-- The sum and flags of ADD (c = false) and ADC (R161, R162). -/
def add8 (a s : Byte) (c : Bool) : Byte × Byte :=
  let r := a.toNat + s.toNat + c.toNat
  let w := BitVec.ofNat 8 r
  (w, szyx w (decide (0xF < loNibble a + loNibble s + c.toNat))
    (a.getLsbD 7 == s.getLsbD 7 && w.getLsbD 7 != a.getLsbD 7) false (decide (0xFF < r)))

/-- The difference and flags of SUB (c = false) and SBC (R163, R164). -/
def sub8 (a s : Byte) (c : Bool) : Byte × Byte :=
  let w := a - s - (BitVec.ofBool c).setWidth 8
  (w, szyx w (decide (loNibble a < loNibble s + c.toNat))
    (a.getLsbD 7 != s.getLsbD 7 && w.getLsbD 7 != a.getLsbD 7) true (decide (a.toNat < s.toNat + c.toNat)))

/-- The flags of CP: those of SUB with Y and X from the operand (R168). -/
def cpFlags (a s : Byte) : Byte :=
  let f := (sub8 a s false).2
  packF (flagS f) (flagZ f) (s.getLsbD 5) (flagH f) (s.getLsbD 3) (flagPV f) (flagN f) (flagC f)

/-- The result and flags of AND, XOR and OR (R165 to R167): h is set by AND alone. -/
def logic8 (w : Byte) (h : Bool) : Byte × Byte := (w, szyx w h (parity w) false false)

/-- The new A and F of an 8-bit ALU operation on A and s (R161 to R168). -/
def alu8 (k : Alu) (a s f : Byte) : Byte × Byte :=
  match k with
  | .add => add8 a s false
  | .adc => add8 a s (flagC f)
  | .sub => sub8 a s false
  | .sbc => sub8 a s (flagC f)
  | .and => logic8 (a &&& s) true
  | .xor => logic8 (a ^^^ s) false
  | .or => logic8 (a ||| s) false
  | .cp => (a, cpFlags a s)

/-- INC's result and flags, C kept (R169). -/
def inc8 (v f : Byte) : Byte × Byte :=
  let w := v + 1#8
  (w, szyx w (lo4 v == 0xF#4) (v == 0x7F#8) false (flagC f))

/-- DEC's result and flags, C kept (R173). -/
def dec8 (v f : Byte) : Byte × Byte :=
  let w := v - 1#8
  (w, szyx w (lo4 v == 0x0#4) (v == 0x80#8) true (flagC f))

/-- What DAA corrects by (R177). -/
def daaCorrection (a f : Byte) : Byte :=
  (if flagH f || decide (9 < loNibble a) then 0x06#8 else 0x00#8) |||
    (if flagC f || decide (0x99 < a.toNat) then 0x60#8 else 0x00#8)

/-- DAA's result and flags (R177). -/
def daa8 (a f : Byte) : Byte × Byte :=
  let t := daaCorrection a f
  let w := if flagN f then a - t else a + t
  (w, szyx w ((a ^^^ w).getLsbD 4) (parity w) (flagN f) (flagC f || decide (0x99 < a.toNat)))

/-- CPL's flags from the new A (R178). -/
def cplFlags (w f : Byte) : Byte :=
  packF (flagS f) (flagZ f) (w.getLsbD 5) true (w.getLsbD 3) (flagPV f) true (flagC f)

/-- F.Y after SCF and CCF (R182), given bit 5 of A. -/
def scfBit (yx : ScfCcfYx) (q : Bool) (aBit fBit : Bool) : Bool :=
  match yx with
  | .aOnly => aBit
  | .qModel => aBit || (fBit && !q)

/-- SCF's flags (R181, R182). -/
def scfFlags (yx : ScfCcfYx) (q : Bool) (a f : Byte) : Byte :=
  packF (flagS f) (flagZ f) (scfBit yx q (a.getLsbD 5) (flagY f)) false
    (scfBit yx q (a.getLsbD 3) (flagX f)) (flagPV f) false true

/-- CCF's flags (R180, R182). -/
def ccfFlags (yx : ScfCcfYx) (q : Bool) (a f : Byte) : Byte :=
  packF (flagS f) (flagZ f) (scfBit yx q (a.getLsbD 5) (flagY f)) (flagC f)
    (scfBit yx q (a.getLsbD 3) (flagX f)) (flagPV f) false (!flagC f)

/-- ADD rr,rr: S, Z and PV kept (R185). -/
def add16 (a b : Word) (f : Byte) : Word × Byte :=
  let r := a.toNat + b.toNat
  let w := BitVec.ofNat 16 r
  (w, packF (flagS f) (flagZ f) (w.getLsbD 13) (decide (0xFFF < a.toNat % 0x1000 + b.toNat % 0x1000))
    (w.getLsbD 11) (flagPV f) false (decide (0xFFFF < r)))

/-- ADC HL,rr (R187). -/
def adc16 (a b : Word) (c : Bool) : Word × Byte :=
  let r := a.toNat + b.toNat + c.toNat
  let w := BitVec.ofNat 16 r
  (w, packF (w.getLsbD 15) (w == 0#16) (w.getLsbD 13)
    (decide (0xFFF < a.toNat % 0x1000 + b.toNat % 0x1000 + c.toNat)) (w.getLsbD 11)
    (a.getLsbD 15 == b.getLsbD 15 && w.getLsbD 15 != a.getLsbD 15) false (decide (0xFFFF < r)))

/-- SBC HL,rr (R188). -/
def sbc16 (a b : Word) (c : Bool) : Word × Byte :=
  let w := a - b - (BitVec.ofBool c).setWidth 16
  (w, packF (w.getLsbD 15) (w == 0#16) (w.getLsbD 13)
    (decide (a.toNat % 0x1000 < b.toNat % 0x1000 + c.toNat)) (w.getLsbD 11)
    (a.getLsbD 15 != b.getLsbD 15 && w.getLsbD 15 != a.getLsbD 15) true
    (decide (a.toNat < b.toNat + c.toNat)))

/-- The result and carry of a CB rotate or shift (R200 to R207). -/
def rotate (k : Rot) (v : Byte) (c : Bool) : Byte × Bool :=
  match k with
  | .rlc => (v.extractLsb' 0 7 ++ BitVec.ofBool (v.getLsbD 7), v.getLsbD 7)
  | .rl => (v.extractLsb' 0 7 ++ BitVec.ofBool c, v.getLsbD 7)
  | .rrc => (BitVec.ofBool (v.getLsbD 0) ++ v.extractLsb' 1 7, v.getLsbD 0)
  | .rr => (BitVec.ofBool c ++ v.extractLsb' 1 7, v.getLsbD 0)
  | .sla => (v.extractLsb' 0 7 ++ 0#1, v.getLsbD 7)
  | .sra => (BitVec.ofBool (v.getLsbD 7) ++ v.extractLsb' 1 7, v.getLsbD 0)
  | .sll => (v.extractLsb' 0 7 ++ 1#1, v.getLsbD 7)
  | .srl => (0#1 ++ v.extractLsb' 1 7, v.getLsbD 0)

/-- The flags every CB rotate and shift sets from its result and carry (R199). -/
def rotateFlags (w : Byte) (c : Bool) : Byte := szyx w false (parity w) false c

/-- The flags of RLCA, RLA, RRCA and RRA: S, Z and PV kept (R195). -/
def accRotateFlags (w f : Byte) (c : Bool) : Byte :=
  packF (flagS f) (flagZ f) (w.getLsbD 5) false (w.getLsbD 3) (flagPV f) false c

/-- Flags from a byte with H = N = 0, PV its parity and C kept: IN r,(C), RLD and RRD (R209, R210, R251). -/
def parityFlags (v f : Byte) : Byte := szyx v false (parity v) false (flagC f)

/-- The flags of LD A,I and LD A,R (R108, R109). -/
def iffFlags (v f : Byte) (iff2 : Bool) : Byte := szyx v false iff2 false (flagC f)

/-- `BitFlags(b, v, yx)` (R215). -/
def bitFlags (b : BitVec 3) (v yx f : Byte) : Byte :=
  let t := v.getLsbD b.toNat
  packF (decide (b = 7#3) && t) (!t) (yx.getLsbD 5) true (yx.getLsbD 3) (!t) false (flagC f)

/-- `v or (1 << b)` (R215). -/
def setBit (b : BitVec 3) (v : Byte) : Byte := v ||| (1#8 <<< b.toNat)

/-- `v and not (1 << b)` (R215). -/
def resBit (b : BitVec 3) (v : Byte) : Byte := v &&& ~~~(1#8 <<< b.toNat)

/-- The flags of LDI and LDD from the byte moved, A and whether BC is not zero afterwards (R141). -/
def blockLdFlags (t a f : Byte) (more : Bool) : Byte :=
  let n := t + a
  packF (flagS f) (flagZ f) (n.getLsbD 1) false (n.getLsbD 3) more false (flagC f)

/-- The flags of CPI and CPD (R145). -/
def blockCpFlags (t a f : Byte) (more : Bool) : Byte :=
  let r := a - t
  let hf := decide (loNibble a < loNibble t)
  let n := r - (BitVec.ofBool hf).setWidth 8
  packF (r.getLsbD 7) (r == 0#8) (n.getLsbD 1) hf (n.getLsbD 3) more true (flagC f)

/-- `BlockIoFlags(t, k)` with B after its decrement (R159). -/
def blockIoFlags (b t : Byte) (k : Nat) : Byte :=
  let c := decide (0xFF < k)
  szyx b c (parity (lo3 (BitVec.ofNat 8 k) ^^^ b)) (t.getLsbD 7) c

/-- Y and X of a repeating iteration come from the rewound PC under `pc_based` (R158). -/
def pcYx (pc : Word) (f : Byte) : Byte :=
  packF (flagS f) (flagZ f) (pc.getLsbD 13) (flagH f) (pc.getLsbD 11) (flagPV f) (flagN f) (flagC f)

/-- H and PV of a repeating block I/O iteration under `pc_based`, from the twin's flags, the byte t transferred and B
after its decrement (R158). -/
def blockIoRepeatFlags (b t f : Byte) : Byte :=
  if flagC f then
    if t.getLsbD 7 then
      packF (flagS f) (flagZ f) (flagY f) (lo4 b == 0x0#4) (flagX f)
        (flagPV f ^^ parity (lo3 (b - 1#8)) ^^ true) (flagN f) (flagC f)
    else
      packF (flagS f) (flagZ f) (flagY f) (lo4 b == 0xF#4) (flagX f)
        (flagPV f ^^ parity (lo3 (b + 1#8)) ^^ true) (flagN f) (flagC f)
  else
    packF (flagS f) (flagZ f) (flagY f) (flagH f) (flagX f)
      (flagPV f ^^ parity (lo3 b) ^^ true) (flagN f) (flagC f)

end Sys2Proof.Machine
end

