-- ==== Sys2Proof/Machine/State.lean ====
section
/-! DEFINITION. The state of the core (R20 to R39) as plain data, the host's side of the callbacks as
data beside it, and the state after reset. -/

namespace Sys2Proof.Machine

/-- One bank of eight 8-bit registers (R20, R22). -/
structure Bank where
  a : Byte
  f : Byte
  b : Byte
  c : Byte
  d : Byte
  e : Byte
  h : Byte
  l : Byte
  deriving DecidableEq, Repr

/-- One call the core makes to a callback of R51, with what the host answered or was given. -/
inductive BusCall
  | readMem (a : Word) (v : Byte)
  | writeMem (a : Word) (v : Byte)
  | readIo (p : Byte) (v : Byte)
  | writeIo (p : Byte) (v : Byte)
  | pollPending (answer : Bool)
  | vectorLowByte (v : Byte)
  deriving DecidableEq, Repr

/-- The state tuple of R37, memory, and the model's own fields (INVENTORY.md, State). -/
structure State where
  /-- A, F, B, C, D, E, H, L (R20). -/
  main : Bank
  /-- A', F', B', C', D', E', H', L' (R22). -/
  alt : Bank
  /-- IX (R23). -/
  ix : Word
  /-- IY (R23). -/
  iy : Word
  /-- SP (R27). -/
  sp : Word
  /-- PC: the address of the next byte to fetch (R28). -/
  pc : Word
  /-- I (R29). -/
  i : Byte
  /-- R (R30). -/
  r : Byte
  /-- IFF1 (R31). -/
  iff1 : Bool
  /-- IFF2 (R31). -/
  iff2 : Bool
  /-- IM (R32). -/
  im : IntMode
  /-- The HALT state (R33). -/
  halted : Bool
  /-- The latched maskable request (R34). -/
  intLatch : Bool
  /-- The latched non-maskable request (R34). -/
  nmiLatch : Bool
  /-- Set by EI, cleared at the start of the next step (R36). -/
  eiDelay : Bool
  /-- An index prefix the previous step fetched (R36). -/
  pendingPrefix : Option Idx
  /-- MEMPTR, also called WZ (R35). -/
  memptr : Word
  /-- Whether the previous step's instruction wrote F (R182); false under `a_only`. -/
  q : Bool
  /-- The bytes behind read_mem and write_mem (R50), in the canonical form of Memory.wf. -/
  mem : List Host.Cell
  /-- The parameters of R8 (notes/assumptions/8.md). -/
  params : Params
  /-- The host's coming answers to poll_pending(), next first (notes/assumptions/5.md). -/
  pollAnswers : List Bool
  /-- The host's coming answers to vector_low_byte(), next first (notes/assumptions/4.md). -/
  vectorAnswers : List Byte
  /-- The host's coming answers to read_io, next first (notes/assumptions/3.md). -/
  ioAnswers : List Byte
  /-- How many free values have been drawn (notes/assumptions/3.md). -/
  draws : Nat
  /-- The callback calls of the last step, in order (R58; notes/assumptions/6.md). -/
  calls : List BusCall
  /-- The cycle count the last step() returned (R300; notes/assumptions/7.md), not cut to 32 bits
  (notes/assumptions/21.md). -/
  cycles : Nat
  deriving DecidableEq, Repr

/-- Why a machine stops with a fault: it has no constructor, because no behaviour of this core is a fault
(R17, R308). Nobody raises one; that is safe, since the model then stops nowhere. -/
inductive Fault
  deriving DecidableEq, Repr

/-- Why the model has no answer. -/
inductive Refusal
  /-- Raised by an arm of exec whose instruction has no meaning yet; safe, because the model stops where the
  hardware goes on. No arm raises it in this model. -/
  | notModelled (mnemonic : String)
  /-- Raised by a step whose five fetched bytes the decoder refuses; safe, and it never happens, since every byte
  sequence decodes (R90). -/
  | undecodable
  deriving DecidableEq, Repr

/-- What an instruction's meaning answers. -/
abbrev Result := Host.Outcome State Fault Refusal

/-- Both banks after reset: `RESET_FILL` in each pair (R39). -/
def Bank.reset : Bank where
  a := 0xFF#8
  f := 0xFF#8
  b := 0xFF#8
  c := 0xFF#8
  d := 0xFF#8
  e := 0xFF#8
  h := 0xFF#8
  l := 0xFF#8

/-- The machine right after reset, with the parameter values R8 takes (R39, R340): nothing listed in memory, no
host answer scripted, no call made and no cycle returned yet. -/
def State.reset : State where
  main := Bank.reset
  alt := Bank.reset
  ix := 0xFFFF#16
  iy := 0xFFFF#16
  sp := 0xFFFF#16
  pc := 0x0000#16
  i := 0x00#8
  r := 0x00#8
  iff1 := false
  iff2 := false
  im := .im0
  halted := false
  intLatch := false
  nmiLatch := false
  eiDelay := false
  pendingPrefix := none
  memptr := 0x0000#16
  q := false
  mem := []
  params := Params.default
  pollAnswers := []
  vectorAnswers := []
  ioAnswers := []
  draws := 0
  calls := []
  cycles := 0

end Sys2Proof.Machine
end

