-- ==== Sys2Proof/Machine/Memory.lean ====
section
/-! DEFINITION. Memory as a list of (address, byte) pairs in one canonical form: addresses strictly rising,
each below 65536, and no entry equal to what an unlisted address reads as. -/

namespace Sys2Proof.Machine

/-- What an address that no entry lists reads as. DESIGN CHOICE, unsafe (notes/assumptions/2.md). -/
def Memory.unlisted : Byte := 0x00#8

/-- The byte at address x. -/
def Memory.read : List Host.Cell → Nat → Byte
  | [], _ => Memory.unlisted
  | (a, v) :: rest, x => if a = x then v else Memory.read rest x

/-- Memory with nothing listed at address x. -/
def Memory.erase : List Host.Cell → Nat → List Host.Cell
  | [], _ => []
  | (a, w) :: rest, x => if a = x then Memory.erase rest x else (a, w) :: Memory.erase rest x

/-- Memory with v listed at address x, before the first higher address. -/
def Memory.insert : List Host.Cell → Nat → Byte → List Host.Cell
  | [], x, v => [(x, v)]
  | (a, w) :: rest, x, v => if x < a then (x, v) :: (a, w) :: rest else (a, w) :: Memory.insert rest x v

/-- Memory with v at address x: what an unlisted address reads as is not listed. -/
def Memory.write (m : List Host.Cell) (x : Nat) (v : Byte) : List Host.Cell :=
  if v = Memory.unlisted then Memory.erase m x else Memory.insert (Memory.erase m x) x v

/-- The canonical form from address lo upwards. -/
def Memory.wfFrom (lo : Nat) : List Host.Cell → Bool
  | [] => true
  | (a, v) :: rest =>
    decide (lo ≤ a) && decide (a < 65536) && decide (v ≠ Memory.unlisted) && Memory.wfFrom (a + 1) rest

/-- The canonical form. -/
def Memory.wf (m : List Host.Cell) : Bool := Memory.wfFrom 0 m

end Sys2Proof.Machine
end

