-- ==== Sys2Proof/Machine/Ops.lean ====
section
/-! DEFINITION. The named operations over registers, memory, ports, the stack and the interrupt system: every meaning is
written over these. Reads hand their byte to the rest of the instruction, as `k v s` with s the state after the
read, so that the order of the callback calls (R58) is the order of the text. -/

namespace Sys2Proof.Machine

/-- Register r[k] of a bank (R76). -/
def Bank.get (k : Bank) (r : Reg8) : Byte :=
  match r with
  | .b => k.b
  | .c => k.c
  | .d => k.d
  | .e => k.e
  | .h => k.h
  | .l => k.l
  | .a => k.a

/-- A bank with v in register r[k] (R76). -/
def Bank.set (k : Bank) (r : Reg8) (v : Byte) : Bank :=
  match r with
  | .b => { k with b := v }
  | .c => { k with c := v }
  | .d => { k with d := v }
  | .e => { k with e := v }
  | .h => { k with h := v }
  | .l => { k with l := v }
  | .a => { k with a := v }

/-- Reads an 8-bit register of the main bank (R20). -/
def State.reg (s : State) (r : Reg8) : Byte := s.main.get r

/-- Writes an 8-bit register of the main bank (R20). -/
def State.setReg (s : State) (r : Reg8) (v : Byte) : State := { s with main := s.main.set r v }

/-- `A <- v`. -/
def State.setA (s : State) (v : Byte) : State := { s with main := { s.main with a := v } }

/-- `B <- v`. -/
def State.setB (s : State) (v : Byte) : State := { s with main := { s.main with b := v } }

/-- F written as a whole (R26). -/
def State.setF (s : State) (v : Byte) : State := { s with main := { s.main with f := v } }

/-- `BC = {B, C}` (R21). -/
def State.bc (s : State) : Word := pack s.main.b s.main.c

/-- `DE = {D, E}` (R21). -/
def State.de (s : State) : Word := pack s.main.d s.main.e

/-- `HL = {H, L}` (R21). -/
def State.hl (s : State) : Word := pack s.main.h s.main.l

/-- `AF = {A, F}` (R21). -/
def State.af (s : State) : Word := pack s.main.a s.main.f

/-- `BC <- v`: both halves (R11). -/
def State.setBc (s : State) (v : Word) : State :=
  { s with main := { s.main with b := hiByte v, c := loByte v } }

/-- `DE <- v` (R11). -/
def State.setDe (s : State) (v : Word) : State :=
  { s with main := { s.main with d := hiByte v, e := loByte v } }

/-- `HL <- v` (R11). -/
def State.setHl (s : State) (v : Word) : State :=
  { s with main := { s.main with h := hiByte v, l := loByte v } }

/-- `AF <- v` (R11). -/
def State.setAf (s : State) (v : Word) : State :=
  { s with main := { s.main with a := hiByte v, f := loByte v } }

/-- `SP <- v` (R27). -/
def State.setSp (s : State) (v : Word) : State := { s with sp := v }

/-- `PC <- v` (R28). -/
def State.setPc (s : State) (v : Word) : State := { s with pc := v }

/-- `MEMPTR <- v` (R35). -/
def State.setMemptr (s : State) (v : Word) : State := { s with memptr := v }

/-- `T <- n` (R16). -/
def State.took (s : State) (n : Nat) : State := { s with cycles := n }

/-- n cycles more (R16, R266). -/
def State.addCycles (s : State) (n : Nat) : State := { s with cycles := s.cycles + n }

/-- R counts k M1 cycles (R30). -/
def State.bumpR (s : State) (k : Nat) : State := { s with r := bumpRefresh k s.r }

/-- `rp[p]` (R77). -/
def State.pair (s : State) (p : Pair) : Word :=
  match p with
  | .bc => s.bc
  | .de => s.de
  | .hl => s.hl
  | .sp => s.sp

/-- `rp[p] <- v` (R77). -/
def State.setPair (s : State) (p : Pair) (v : Word) : State :=
  match p with
  | .bc => s.setBc v
  | .de => s.setDe v
  | .hl => s.setHl v
  | .sp => s.setSp v

/-- `rp2[p]` (R77). -/
def State.stackPair (s : State) (q : StackPair) : Word :=
  match q with
  | .bc => s.bc
  | .de => s.de
  | .hl => s.hl
  | .af => s.af

/-- `rp2[p] <- v` (R77). -/
def State.setStackPair (s : State) (q : StackPair) (v : Word) : State :=
  match q with
  | .bc => s.setBc v
  | .de => s.setDe v
  | .hl => s.setHl v
  | .af => s.setAf v

/-- The pair LD A,(rr) and LD (rr),A address through (R112). -/
def State.addrPair (s : State) (rr : AddrPair) : Word :=
  match rr with
  | .bc => s.bc
  | .de => s.de

/-- IX or IY (R23). -/
def State.idx (s : State) (ii : Idx) : Word :=
  match ii with
  | .ix => s.ix
  | .iy => s.iy

/-- `IX <- v` or `IY <- v` (R23). -/
def State.setIdx (s : State) (ii : Idx) (v : Word) : State :=
  match ii with
  | .ix => { s with ix := v }
  | .iy => { s with iy := v }

/-- IXH, IXL, IYH or IYL (R23). -/
def State.half (s : State) (ii : Idx) (x : Half) : Byte :=
  match x with
  | .high => hiByte (s.idx ii)
  | .low => loByte (s.idx ii)

/-- Writes one half of an index register; the other half stays (R23, R117). -/
def State.setHalf (s : State) (ii : Idx) (x : Half) (v : Byte) : State :=
  match x with
  | .high => s.setIdx ii (pack v (loByte (s.idx ii)))
  | .low => s.setIdx ii (pack (hiByte (s.idx ii)) v)

/-- The byte read_mem answers at an address (R52; memory is an array, notes/assumptions/1.md). -/
def State.peek (s : State) (a : Word) : Byte := Memory.read s.mem a.toNat

/-- The byte at an address replaced. -/
def State.poke (s : State) (a : Word) (v : Byte) : State := { s with mem := Memory.write s.mem a.toNat v }

/-- One more callback call of this step (R58). -/
def State.log (s : State) (c : BusCall) : State := { s with calls := s.calls ++ [c] }

/-- `v <- MemRead(a, 1)` (R13). -/
def State.readMem (s : State) (a : Word) (k : Byte → State → State) : State :=
  k (s.peek a) (s.log (.readMem a (s.peek a)))

/-- `MemWrite(a, 1, v)` (R13). -/
def State.writeMem (s : State) (a : Word) (v : Byte) : State := (s.poke a v).log (.writeMem a v)

/-- `w <- MemRead(a, 2)`: the byte at a is the low one (R13, R59, R60). -/
def State.readMem16 (s : State) (a : Word) (k : Word → State → State) : State :=
  s.readMem a fun lo s => s.readMem (a + 1#16) fun hi s => k (pack hi lo) s

/-- `MemWrite(a, 2, w)`: the low byte first, at a (R13, R59, R60). -/
def State.writeMem16 (s : State) (a : Word) (w : Word) : State :=
  (s.writeMem a (loByte w)).writeMem (a + 1#16) (hiByte w)

/-- The byte the host answers to the next read_io: its script, then a free value (R54; notes/assumptions/3.md). -/
def State.ioAnswer (s : State) : Byte := s.ioAnswers.headD (Config.freeIoByte s.draws)

/-- The answer is used up. -/
def State.nextIo (s : State) : State :=
  { s with ioAnswers := s.ioAnswers.tail, draws := if s.ioAnswers.isEmpty then s.draws + 1 else s.draws }

/-- `v <- IoRead(p)`: the callback sees the low byte of p (R13, R54, R65). -/
def State.readIo (s : State) (p : Word) (k : Byte → State → State) : State :=
  k s.ioAnswer (s.nextIo.log (.readIo (loByte p) s.ioAnswer))

/-- `IoWrite(p, v)` (R13, R55, R65). -/
def State.writeIo (s : State) (p : Word) (v : Byte) : State := s.log (.writeIo (loByte p) v)

/-- `Push16(w)`: the high byte at SP - 1, then the low byte at SP - 2 (R15). -/
def State.push16 (s : State) (w : Word) : State :=
  ((((s.setSp (s.sp - 1#16)).writeMem (s.sp - 1#16) (hiByte w)).setSp (s.sp - 2#16)).writeMem
    (s.sp - 2#16) (loByte w))

/-- `w <- Pop16()`: the low byte at SP, then the high byte at SP + 1, and SP + 2 (R15). -/
def State.pop16 (s : State) (k : Word → State → State) : State :=
  s.readMem s.sp fun lo s =>
    (s.setSp (s.sp + 1#16)).readMem (s.sp + 1#16) fun hi s => k (pack hi lo) (s.setSp (s.sp + 1#16))

/-- The byte the device answers to vector_low_byte(): its script, then a free value (R314; notes/assumptions/4.md). -/
def State.vectorAnswer (s : State) : Byte := s.vectorAnswers.headD (Config.freeVectorByte s.draws)

/-- `v <- vector_low_byte()` (R51, R314). -/
def State.vectorLowByte (s : State) (k : Byte → State → State) : State :=
  k s.vectorAnswer
    ({ s with vectorAnswers := s.vectorAnswers.tail,
              draws := if s.vectorAnswers.isEmpty then s.draws + 1 else s.draws }.log
      (.vectorLowByte s.vectorAnswer))

/-- The causes of R308's table, by the codes it names. -/
inductive Cause
  | nmi | int0 | int1 | int2
  deriving DecidableEq, Repr

/-- The cause a maskable acceptance has in each mode (R308). -/
def maskableCause (m : IntMode) : Cause :=
  match m with
  | .im0 => .int0
  | .im1 => .int1
  | .im2 => .int2

/-- The latch the acceptance clears: NMI's own, and the maskable one for the other causes (R310, R316). -/
def State.clearLatch (s : State) (c : Cause) : State :=
  match c with
  | .nmi => { s with nmiLatch := false }
  | .int0 => { s with intLatch := false }
  | .int1 => { s with intLatch := false }
  | .int2 => { s with intLatch := false }

/-- The flip-flops: NMI saves IFF1 into IFF2 (R316), the maskable causes clear both (R310). -/
def State.maskInterrupts (s : State) (c : Cause) : State :=
  match c with
  | .nmi => { s with iff2 := s.iff1, iff1 := false }
  | .int0 => { s with iff1 := false, iff2 := false }
  | .int1 => { s with iff1 := false, iff2 := false }
  | .int2 => { s with iff1 := false, iff2 := false }

/-- `halted <- 0` (R309). -/
def State.wake (s : State) : State := { s with halted := false }

/-- `w` is the handler's address: fixed, or for IM 2 the word at {I, v} (R311, R312, R314, R316). -/
def State.handler (s : State) (c : Cause) (k : Word → State → State) : State :=
  match c with
  | .nmi => k 0x0066#16 s
  | .int0 => k s.params.im0Vector s
  | .int1 => k 0x0038#16 s
  | .int2 => s.vectorLowByte fun v s => s.readMem16 (pack s.i v) k

/-- The cycles of a response, without M1_WAIT (R300). -/
def Cause.cycles (c : Cause) : Nat :=
  match c with
  | .nmi => 11
  | .int0 => 13
  | .int1 => 13
  | .int2 => 19

/-- `PC <- w; MEMPTR <- PC` (R232, R239, R310). -/
def State.jump (s : State) (w : Word) : State := (s.setPc w).setMemptr w

/-- Taking an interrupt, the one entry for every cause (R309 to R316): the latch and the halt are cleared, the
acknowledge counts in R, the flip-flops change, PC is pushed, and PC and MEMPTR take the handler's address. -/
def takeInterrupt (c : Cause) (s : State) : State :=
  ((((s.clearLatch c).wake.bumpR 1).maskInterrupts c).push16 s.pc).handler c
    fun w s => (s.jump w).took c.cycles

/-- Returning from an interrupt: RETI and RETN pop PC and restore IFF1 from IFF2 (R241, R242, R318). -/
def returnFromInterrupt (s : State) : State :=
  s.pop16 fun w s => { (s.jump w) with iff1 := s.iff2 }.took 14

end Sys2Proof.Machine
end

