-- ==== Sys2Proof/Machine/Operands.lean ====
section
/-! DEFINITION. The operand forms (R61, R62, R65, R83, R97): registers under an index prefix, (HL), (ii+d), ports, relative
and page-zero targets, and the repeat of a block instruction. -/

namespace Sys2Proof.Machine

/-- Fields 4 and 5 of an instruction with no (HL) operand mean the halves of the index register (R83, R116). -/
def State.idxReg (s : State) (ii : Idx) (r : Reg8) : Byte :=
  match r with
  | .b => s.main.b
  | .c => s.main.c
  | .d => s.main.d
  | .e => s.main.e
  | .h => s.half ii .high
  | .l => s.half ii .low
  | .a => s.main.a

/-- Writes register field r under an index prefix (R83, R116). -/
def State.setIdxReg (s : State) (ii : Idx) (r : Reg8) (v : Byte) : State :=
  match r with
  | .b => s.setReg .b v
  | .c => s.setReg .c v
  | .d => s.setReg .d v
  | .e => s.setReg .e v
  | .h => s.setHalf ii .high v
  | .l => s.setHalf ii .low v
  | .a => s.setReg .a v

/-- Pair p of ADD ii,rr: field 2 is the index register itself (R83, R186). -/
def State.idxPair (s : State) (ii : Idx) (p : Pair) : Word :=
  match p with
  | .bc => s.bc
  | .de => s.de
  | .hl => s.idx ii
  | .sp => s.sp

/-- `EA = (ii + sext_16(d)) mod 2^16` (R62). -/
def State.ea (s : State) (ii : Idx) (d : Byte) : Word := s.idx ii + sext16 d

/-- An operand (ii+d): MEMPTR takes EA, and the rest of the instruction works at EA (R62). -/
def State.indexed (s : State) (ii : Idx) (d : Byte) (k : Word → State → State) : State :=
  k (s.ea ii d) (s.setMemptr (s.ea ii d))

/-- The byte at a is read, f of it written back, and F set to g of it (R58, R170, R199). -/
def State.modifyF (s : State) (a : Word) (f g : Byte → Byte) : State :=
  s.readMem a fun v s => (s.writeMem a (f v)).setF (g v)

/-- The byte at a is read and f of it written back, with no flag written (R220, R223). -/
def State.modify (s : State) (a : Word) (f : Byte → Byte) : State :=
  s.readMem a fun v s => s.writeMem a (f v)

/-- The register copy of a DDCB or FDCB instruction, where z names a register (R86, R208). -/
def State.copyTo (s : State) (copy : Option Reg8) (v : Byte) : State :=
  match copy with
  | none => s
  | some r => s.setReg r v

/-- The port value of IN A,(n) and OUT (n),A (R65). -/
def State.portN (s : State) (n : Byte) : Word := pack s.main.a n

/-- `PC + sext_16(e)`, PC being the address after the e byte (R61, R232). -/
def State.relative (s : State) (e : Byte) : Word := s.pc + sext16 e

/-- `p = y * 8` as an address (R80, R243). -/
def rstTarget (y : BitVec 3) : Word := 0#10 ++ y ++ 0#3

/-- One place on in the direction of a block instruction. -/
def stepWord (d : Dir) (w : Word) : Word :=
  match d with
  | .inc => w + 1#16
  | .dec => w - 1#16

/-- `C + 1` or `C - 1` in 8 bits, as R159's k takes it. -/
def stepByte (d : Dir) (v : Byte) : Byte :=
  match d with
  | .inc => v + 1#8
  | .dec => v - 1#8

/-- The instruction's own address, where a repeating iteration leaves PC (R140). -/
def State.rewound (s : State) : Word := s.pc - 2#16

/-- A repeating iteration's end: PC rewound, and under `pc_based` the flags changed by `g`, 21 cycles (R140, R158). -/
def State.repeatBlock (s : State) (g : Byte → Byte) : State :=
  let f := match s.params.blockRepeatFlags with
    | .classic => s.main.f
    | .pcBased => g (pcYx s.rewound s.main.f)
  ((s.setF f).setPc s.rewound).took 21

end Sys2Proof.Machine
end

