-- ==== Sys2Proof/Machine/Alu16.lean ====
section
/-! DEFINITION. The meanings of the 16-bit arithmetic instructions (spec file 44_alu16.md). First each operation once, over
its fields, then one meaning per mnemonic. -/

namespace Sys2Proof.Machine

/-- ADD HL,rr (R185). -/
def doAddHl (p : Pair) (s : State) : State :=
  let r := add16 s.hl (s.pair p) s.main.f
  (((s.setMemptr (s.hl + 1#16)).setHl r.1).setF r.2).took 11

/-- ADD ii,rr (R186). -/
def doIdxAdd (ii : Idx) (p : Pair) (s : State) : State :=
  let r := add16 (s.idx ii) (s.idxPair ii p) s.main.f
  (((s.setMemptr (s.idx ii + 1#16)).setIdx ii r.1).setF r.2).took 15

/-- ADC HL,rr (R187). -/
def doAdcHl (p : Pair) (s : State) : State :=
  let r := adc16 s.hl (s.pair p) (flagC s.main.f)
  (((s.setMemptr (s.hl + 1#16)).setHl r.1).setF r.2).took 15

/-- SBC HL,rr (R188). -/
def doSbcHl (p : Pair) (s : State) : State :=
  let r := sbc16 s.hl (s.pair p) (flagC s.main.f)
  (((s.setMemptr (s.hl + 1#16)).setHl r.1).setF r.2).took 15

/-- INC rr (R189). -/
def doIncPair (p : Pair) (s : State) : State := (s.setPair p (s.pair p + 1#16)).took 6

/-- INC ii (R190). -/
def doIdxInc (ii : Idx) (s : State) : State := (s.setIdx ii (s.idx ii + 1#16)).took 10

/-- DEC rr (R191). -/
def doDecPair (p : Pair) (s : State) : State := (s.setPair p (s.pair p - 1#16)).took 6

/-- DEC ii (R192). -/
def doIdxDec (ii : Idx) (s : State) : State := (s.setIdx ii (s.idx ii - 1#16)).took 10

/-- INC BC (R189). -/
def execIncBc (s : State) : Result := .next (doIncPair .bc s)

/-- ADD HL,BC (R185). -/
def execAddHlBc (s : State) : Result := .next (doAddHl .bc s)

/-- DEC BC (R191). -/
def execDecBc (s : State) : Result := .next (doDecPair .bc s)

/-- INC DE (R189). -/
def execIncDe (s : State) : Result := .next (doIncPair .de s)

/-- ADD HL,DE (R185). -/
def execAddHlDe (s : State) : Result := .next (doAddHl .de s)

/-- DEC DE (R191). -/
def execDecDe (s : State) : Result := .next (doDecPair .de s)

/-- INC HL (R189). -/
def execIncHl (s : State) : Result := .next (doIncPair .hl s)

/-- ADD HL,HL (R185). -/
def execAddHlHl (s : State) : Result := .next (doAddHl .hl s)

/-- DEC HL (R191). -/
def execDecHl (s : State) : Result := .next (doDecPair .hl s)

/-- INC SP (R189). -/
def execIncSp (s : State) : Result := .next (doIncPair .sp s)

/-- ADD HL,SP (R185). -/
def execAddHlSp (s : State) : Result := .next (doAddHl .sp s)

/-- DEC SP (R191). -/
def execDecSp (s : State) : Result := .next (doDecPair .sp s)

/-- SBC HL,BC (R188). -/
def execSbcHlBc (s : State) : Result := .next (doSbcHl .bc s)

/-- ADC HL,BC (R187). -/
def execAdcHlBc (s : State) : Result := .next (doAdcHl .bc s)

/-- SBC HL,DE (R188). -/
def execSbcHlDe (s : State) : Result := .next (doSbcHl .de s)

/-- ADC HL,DE (R187). -/
def execAdcHlDe (s : State) : Result := .next (doAdcHl .de s)

/-- SBC HL,HL (R188). -/
def execSbcHlHl (s : State) : Result := .next (doSbcHl .hl s)

/-- ADC HL,HL (R187). -/
def execAdcHlHl (s : State) : Result := .next (doAdcHl .hl s)

/-- SBC HL,SP (R188). -/
def execSbcHlSp (s : State) : Result := .next (doSbcHl .sp s)

/-- ADC HL,SP (R187). -/
def execAdcHlSp (s : State) : Result := .next (doAdcHl .sp s)

/-- ADD ii,BC (R186). -/
def execAddIdxBc (ii : Idx) (s : State) : Result := .next (doIdxAdd ii .bc s)

/-- ADD ii,DE (R186). -/
def execAddIdxDe (ii : Idx) (s : State) : Result := .next (doIdxAdd ii .de s)

/-- INC ii (R190). -/
def execIncIdx (ii : Idx) (s : State) : Result := .next (doIdxInc ii s)

/-- ADD ii,ii (R186). -/
def execAddIdxIdx (ii : Idx) (s : State) : Result := .next (doIdxAdd ii .hl s)

/-- DEC ii (R192). -/
def execDecIdx (ii : Idx) (s : State) : Result := .next (doIdxDec ii s)

/-- ADD ii,SP (R186). -/
def execAddIdxSp (ii : Idx) (s : State) : Result := .next (doIdxAdd ii .sp s)

end Sys2Proof.Machine
end

