-- ==== Sys2Proof/Machine/Alu8.lean ====
section
/-! DEFINITION. The meanings of the 8-bit arithmetic and logic instructions (spec file 43_alu8.md). First each operation
once, over its fields, then one meaning per mnemonic. -/

namespace Sys2Proof.Machine

/-- The operation k on A and s: A and F take its result and flags (R160 to R168). -/
def State.alu (s : State) (k : Alu) (v : Byte) : State :=
  (s.setA (alu8 k s.main.a v s.main.f).1).setF (alu8 k s.main.a v s.main.f).2

/-- Register source (R160). -/
def doAluReg (k : Alu) (r : Reg8) (s : State) : State := (s.alu k (s.reg r)).took 4

/-- Immediate source (R160). -/
def doAluN (k : Alu) (n : Byte) (s : State) : State := (s.alu k n).took 7

/-- Source (HL) (R160). -/
def doAluMem (k : Alu) (s : State) : State := s.readMem s.hl fun v s => (s.alu k v).took 7

/-- Source (ii+d) (R160). -/
def doIdxAluMem (ii : Idx) (k : Alu) (d : Byte) (s : State) : State :=
  s.indexed ii d fun ea s => s.readMem ea fun v s => (s.alu k v).took 19

/-- Source IXH, IXL, IYH or IYL (R160). -/
def doIdxAluHalf (ii : Idx) (k : Alu) (x : Half) (s : State) : State := (s.alu k (s.half ii x)).took 8

/-- INC r (R169). -/
def doIncReg (r : Reg8) (s : State) : State :=
  ((s.setReg r (inc8 (s.reg r) s.main.f).1).setF (inc8 (s.reg r) s.main.f).2).took 4

/-- INC (HL): one read, one write (R170). -/
def doIncMem (s : State) : State :=
  (s.modifyF s.hl (fun v => (inc8 v s.main.f).1) (fun v => (inc8 v s.main.f).2)).took 11

/-- INC (ii+d) (R171). -/
def doIdxIncMem (ii : Idx) (d : Byte) (s : State) : State :=
  s.indexed ii d fun ea s =>
    (s.modifyF ea (fun v => (inc8 v s.main.f).1) (fun v => (inc8 v s.main.f).2)).took 23

/-- INC of an index half (R172). -/
def doIdxIncHalf (ii : Idx) (x : Half) (s : State) : State :=
  ((s.setHalf ii x (inc8 (s.half ii x) s.main.f).1).setF (inc8 (s.half ii x) s.main.f).2).took 8

/-- DEC r (R173). -/
def doDecReg (r : Reg8) (s : State) : State :=
  ((s.setReg r (dec8 (s.reg r) s.main.f).1).setF (dec8 (s.reg r) s.main.f).2).took 4

/-- DEC (HL) (R174). -/
def doDecMem (s : State) : State :=
  (s.modifyF s.hl (fun v => (dec8 v s.main.f).1) (fun v => (dec8 v s.main.f).2)).took 11

/-- DEC (ii+d) (R175). -/
def doIdxDecMem (ii : Idx) (d : Byte) (s : State) : State :=
  s.indexed ii d fun ea s =>
    (s.modifyF ea (fun v => (dec8 v s.main.f).1) (fun v => (dec8 v s.main.f).2)).took 23

/-- DEC of an index half (R176). -/
def doIdxDecHalf (ii : Idx) (x : Half) (s : State) : State :=
  ((s.setHalf ii x (dec8 (s.half ii x) s.main.f).1).setF (dec8 (s.half ii x) s.main.f).2).took 8

/-- DAA (R177). -/
def doDaa (s : State) : State :=
  ((s.setA (daa8 s.main.a s.main.f).1).setF (daa8 s.main.a s.main.f).2).took 4

/-- CPL (R178). -/
def doCpl (s : State) : State := ((s.setA (~~~s.main.a)).setF (cplFlags (~~~s.main.a) s.main.f)).took 4

/-- NEG: SUB of the old A from 0 (R179). -/
def doNeg (s : State) : State :=
  ((s.setA (sub8 0#8 s.main.a false).1).setF (sub8 0#8 s.main.a false).2).took 8

/-- CCF (R180). -/
def doCcf (s : State) : State := (s.setF (ccfFlags s.params.scfCcfYx s.q s.main.a s.main.f)).took 4

/-- SCF (R181). -/
def doScf (s : State) : State := (s.setF (scfFlags s.params.scfCcfYx s.q s.main.a s.main.f)).took 4

/-- INC B (R169). -/
def execIncB (s : State) : Result := .next (doIncReg .b s)

/-- DEC B (R173). -/
def execDecB (s : State) : Result := .next (doDecReg .b s)

/-- INC C (R169). -/
def execIncC (s : State) : Result := .next (doIncReg .c s)

/-- DEC C (R173). -/
def execDecC (s : State) : Result := .next (doDecReg .c s)

/-- INC D (R169). -/
def execIncD (s : State) : Result := .next (doIncReg .d s)

/-- DEC D (R173). -/
def execDecD (s : State) : Result := .next (doDecReg .d s)

/-- INC E (R169). -/
def execIncE (s : State) : Result := .next (doIncReg .e s)

/-- DEC E (R173). -/
def execDecE (s : State) : Result := .next (doDecReg .e s)

/-- INC H (R169). -/
def execIncH (s : State) : Result := .next (doIncReg .h s)

/-- DEC H (R173). -/
def execDecH (s : State) : Result := .next (doDecReg .h s)

/-- DAA (R177). -/
def execDaa (s : State) : Result := .next (doDaa s)

/-- INC L (R169). -/
def execIncL (s : State) : Result := .next (doIncReg .l s)

/-- DEC L (R173). -/
def execDecL (s : State) : Result := .next (doDecReg .l s)

/-- CPL (R178). -/
def execCpl (s : State) : Result := .next (doCpl s)

/-- INC (HL) (R170). -/
def execIncAtHl (s : State) : Result := .next (doIncMem s)

/-- DEC (HL) (R174). -/
def execDecAtHl (s : State) : Result := .next (doDecMem s)

/-- SCF (R181). -/
def execScf (s : State) : Result := .next (doScf s)

/-- INC A (R169). -/
def execIncA (s : State) : Result := .next (doIncReg .a s)

/-- DEC A (R173). -/
def execDecA (s : State) : Result := .next (doDecReg .a s)

/-- CCF (R180). -/
def execCcf (s : State) : Result := .next (doCcf s)

/-- ADD A,B (R161). -/
def execAddAB (s : State) : Result := .next (doAluReg .add .b s)

/-- ADD A,C (R161). -/
def execAddAC (s : State) : Result := .next (doAluReg .add .c s)

/-- ADD A,D (R161). -/
def execAddAD (s : State) : Result := .next (doAluReg .add .d s)

/-- ADD A,E (R161). -/
def execAddAE (s : State) : Result := .next (doAluReg .add .e s)

/-- ADD A,H (R161). -/
def execAddAH (s : State) : Result := .next (doAluReg .add .h s)

/-- ADD A,L (R161). -/
def execAddAL (s : State) : Result := .next (doAluReg .add .l s)

/-- ADD A,(HL) (R161). -/
def execAddAAtHl (s : State) : Result := .next (doAluMem .add s)

/-- ADD A,A (R161). -/
def execAddAA (s : State) : Result := .next (doAluReg .add .a s)

/-- ADC A,B (R162). -/
def execAdcAB (s : State) : Result := .next (doAluReg .adc .b s)

/-- ADC A,C (R162). -/
def execAdcAC (s : State) : Result := .next (doAluReg .adc .c s)

/-- ADC A,D (R162). -/
def execAdcAD (s : State) : Result := .next (doAluReg .adc .d s)

/-- ADC A,E (R162). -/
def execAdcAE (s : State) : Result := .next (doAluReg .adc .e s)

/-- ADC A,H (R162). -/
def execAdcAH (s : State) : Result := .next (doAluReg .adc .h s)

/-- ADC A,L (R162). -/
def execAdcAL (s : State) : Result := .next (doAluReg .adc .l s)

/-- ADC A,(HL) (R162). -/
def execAdcAAtHl (s : State) : Result := .next (doAluMem .adc s)

/-- ADC A,A (R162). -/
def execAdcAA (s : State) : Result := .next (doAluReg .adc .a s)

/-- SUB B (R163). -/
def execSubB (s : State) : Result := .next (doAluReg .sub .b s)

/-- SUB C (R163). -/
def execSubC (s : State) : Result := .next (doAluReg .sub .c s)

/-- SUB D (R163). -/
def execSubD (s : State) : Result := .next (doAluReg .sub .d s)

/-- SUB E (R163). -/
def execSubE (s : State) : Result := .next (doAluReg .sub .e s)

/-- SUB H (R163). -/
def execSubH (s : State) : Result := .next (doAluReg .sub .h s)

/-- SUB L (R163). -/
def execSubL (s : State) : Result := .next (doAluReg .sub .l s)

/-- SUB (HL) (R163). -/
def execSubAtHl (s : State) : Result := .next (doAluMem .sub s)

/-- SUB A (R163). -/
def execSubA (s : State) : Result := .next (doAluReg .sub .a s)

/-- SBC A,B (R164). -/
def execSbcAB (s : State) : Result := .next (doAluReg .sbc .b s)

/-- SBC A,C (R164). -/
def execSbcAC (s : State) : Result := .next (doAluReg .sbc .c s)

/-- SBC A,D (R164). -/
def execSbcAD (s : State) : Result := .next (doAluReg .sbc .d s)

/-- SBC A,E (R164). -/
def execSbcAE (s : State) : Result := .next (doAluReg .sbc .e s)

/-- SBC A,H (R164). -/
def execSbcAH (s : State) : Result := .next (doAluReg .sbc .h s)

/-- SBC A,L (R164). -/
def execSbcAL (s : State) : Result := .next (doAluReg .sbc .l s)

/-- SBC A,(HL) (R164). -/
def execSbcAAtHl (s : State) : Result := .next (doAluMem .sbc s)

/-- SBC A,A (R164). -/
def execSbcAA (s : State) : Result := .next (doAluReg .sbc .a s)

/-- AND B (R165). -/
def execAndB (s : State) : Result := .next (doAluReg .and .b s)

/-- AND C (R165). -/
def execAndC (s : State) : Result := .next (doAluReg .and .c s)

/-- AND D (R165). -/
def execAndD (s : State) : Result := .next (doAluReg .and .d s)

/-- AND E (R165). -/
def execAndE (s : State) : Result := .next (doAluReg .and .e s)

/-- AND H (R165). -/
def execAndH (s : State) : Result := .next (doAluReg .and .h s)

/-- AND L (R165). -/
def execAndL (s : State) : Result := .next (doAluReg .and .l s)

/-- AND (HL) (R165). -/
def execAndAtHl (s : State) : Result := .next (doAluMem .and s)

/-- AND A (R165). -/
def execAndA (s : State) : Result := .next (doAluReg .and .a s)

/-- XOR B (R166). -/
def execXorB (s : State) : Result := .next (doAluReg .xor .b s)

/-- XOR C (R166). -/
def execXorC (s : State) : Result := .next (doAluReg .xor .c s)

/-- XOR D (R166). -/
def execXorD (s : State) : Result := .next (doAluReg .xor .d s)

/-- XOR E (R166). -/
def execXorE (s : State) : Result := .next (doAluReg .xor .e s)

/-- XOR H (R166). -/
def execXorH (s : State) : Result := .next (doAluReg .xor .h s)

/-- XOR L (R166). -/
def execXorL (s : State) : Result := .next (doAluReg .xor .l s)

/-- XOR (HL) (R166). -/
def execXorAtHl (s : State) : Result := .next (doAluMem .xor s)

/-- XOR A (R166). -/
def execXorA (s : State) : Result := .next (doAluReg .xor .a s)

/-- OR B (R167). -/
def execOrB (s : State) : Result := .next (doAluReg .or .b s)

/-- OR C (R167). -/
def execOrC (s : State) : Result := .next (doAluReg .or .c s)

/-- OR D (R167). -/
def execOrD (s : State) : Result := .next (doAluReg .or .d s)

/-- OR E (R167). -/
def execOrE (s : State) : Result := .next (doAluReg .or .e s)

/-- OR H (R167). -/
def execOrH (s : State) : Result := .next (doAluReg .or .h s)

/-- OR L (R167). -/
def execOrL (s : State) : Result := .next (doAluReg .or .l s)

/-- OR (HL) (R167). -/
def execOrAtHl (s : State) : Result := .next (doAluMem .or s)

/-- OR A (R167). -/
def execOrA (s : State) : Result := .next (doAluReg .or .a s)

/-- CP B (R168). -/
def execCpB (s : State) : Result := .next (doAluReg .cp .b s)

/-- CP C (R168). -/
def execCpC (s : State) : Result := .next (doAluReg .cp .c s)

/-- CP D (R168). -/
def execCpD (s : State) : Result := .next (doAluReg .cp .d s)

/-- CP E (R168). -/
def execCpE (s : State) : Result := .next (doAluReg .cp .e s)

/-- CP H (R168). -/
def execCpH (s : State) : Result := .next (doAluReg .cp .h s)

/-- CP L (R168). -/
def execCpL (s : State) : Result := .next (doAluReg .cp .l s)

/-- CP (HL) (R168). -/
def execCpAtHl (s : State) : Result := .next (doAluMem .cp s)

/-- CP A (R168). -/
def execCpA (s : State) : Result := .next (doAluReg .cp .a s)

/-- ADD A,n (R161). -/
def execAddAN (n : Byte) (s : State) : Result := .next (doAluN .add n s)

/-- ADC A,n (R162). -/
def execAdcAN (n : Byte) (s : State) : Result := .next (doAluN .adc n s)

/-- SUB n (R163). -/
def execSubN (n : Byte) (s : State) : Result := .next (doAluN .sub n s)

/-- SBC A,n (R164). -/
def execSbcAN (n : Byte) (s : State) : Result := .next (doAluN .sbc n s)

/-- AND n (R165). -/
def execAndN (n : Byte) (s : State) : Result := .next (doAluN .and n s)

/-- XOR n (R166). -/
def execXorN (n : Byte) (s : State) : Result := .next (doAluN .xor n s)

/-- OR n (R167). -/
def execOrN (n : Byte) (s : State) : Result := .next (doAluN .or n s)

/-- CP n (R168). -/
def execCpN (n : Byte) (s : State) : Result := .next (doAluN .cp n s)

/-- NEG (R179). -/
def execNeg (_y : BitVec 3) (s : State) : Result := .next (doNeg s)

/-- INC iiH (R172). -/
def execIncIdxH (ii : Idx) (s : State) : Result := .next (doIdxIncHalf ii .high s)

/-- DEC iiH (R176). -/
def execDecIdxH (ii : Idx) (s : State) : Result := .next (doIdxDecHalf ii .high s)

/-- INC iiL (R172). -/
def execIncIdxL (ii : Idx) (s : State) : Result := .next (doIdxIncHalf ii .low s)

/-- DEC iiL (R176). -/
def execDecIdxL (ii : Idx) (s : State) : Result := .next (doIdxDecHalf ii .low s)

/-- INC (ii+d) (R171). -/
def execIncAtIdx (ii : Idx) (d : Byte) (s : State) : Result := .next (doIdxIncMem ii d s)

/-- DEC (ii+d) (R175). -/
def execDecAtIdx (ii : Idx) (d : Byte) (s : State) : Result := .next (doIdxDecMem ii d s)

/-- ADD A,iiH (R161). -/
def execAddAIdxH (ii : Idx) (s : State) : Result := .next (doIdxAluHalf ii .add .high s)

/-- ADD A,iiL (R161). -/
def execAddAIdxL (ii : Idx) (s : State) : Result := .next (doIdxAluHalf ii .add .low s)

/-- ADD A,(ii+d) (R161). -/
def execAddAAtIdx (ii : Idx) (d : Byte) (s : State) : Result := .next (doIdxAluMem ii .add d s)

/-- ADC A,iiH (R162). -/
def execAdcAIdxH (ii : Idx) (s : State) : Result := .next (doIdxAluHalf ii .adc .high s)

/-- ADC A,iiL (R162). -/
def execAdcAIdxL (ii : Idx) (s : State) : Result := .next (doIdxAluHalf ii .adc .low s)

/-- ADC A,(ii+d) (R162). -/
def execAdcAAtIdx (ii : Idx) (d : Byte) (s : State) : Result := .next (doIdxAluMem ii .adc d s)

/-- SUB iiH (R163). -/
def execSubIdxH (ii : Idx) (s : State) : Result := .next (doIdxAluHalf ii .sub .high s)

/-- SUB iiL (R163). -/
def execSubIdxL (ii : Idx) (s : State) : Result := .next (doIdxAluHalf ii .sub .low s)

/-- SUB (ii+d) (R163). -/
def execSubAtIdx (ii : Idx) (d : Byte) (s : State) : Result := .next (doIdxAluMem ii .sub d s)

/-- SBC A,iiH (R164). -/
def execSbcAIdxH (ii : Idx) (s : State) : Result := .next (doIdxAluHalf ii .sbc .high s)

/-- SBC A,iiL (R164). -/
def execSbcAIdxL (ii : Idx) (s : State) : Result := .next (doIdxAluHalf ii .sbc .low s)

/-- SBC A,(ii+d) (R164). -/
def execSbcAAtIdx (ii : Idx) (d : Byte) (s : State) : Result := .next (doIdxAluMem ii .sbc d s)

/-- AND iiH (R165). -/
def execAndIdxH (ii : Idx) (s : State) : Result := .next (doIdxAluHalf ii .and .high s)

/-- AND iiL (R165). -/
def execAndIdxL (ii : Idx) (s : State) : Result := .next (doIdxAluHalf ii .and .low s)

/-- AND (ii+d) (R165). -/
def execAndAtIdx (ii : Idx) (d : Byte) (s : State) : Result := .next (doIdxAluMem ii .and d s)

/-- XOR iiH (R166). -/
def execXorIdxH (ii : Idx) (s : State) : Result := .next (doIdxAluHalf ii .xor .high s)

/-- XOR iiL (R166). -/
def execXorIdxL (ii : Idx) (s : State) : Result := .next (doIdxAluHalf ii .xor .low s)

/-- XOR (ii+d) (R166). -/
def execXorAtIdx (ii : Idx) (d : Byte) (s : State) : Result := .next (doIdxAluMem ii .xor d s)

/-- OR iiH (R167). -/
def execOrIdxH (ii : Idx) (s : State) : Result := .next (doIdxAluHalf ii .or .high s)

/-- OR iiL (R167). -/
def execOrIdxL (ii : Idx) (s : State) : Result := .next (doIdxAluHalf ii .or .low s)

/-- OR (ii+d) (R167). -/
def execOrAtIdx (ii : Idx) (d : Byte) (s : State) : Result := .next (doIdxAluMem ii .or d s)

/-- CP iiH (R168). -/
def execCpIdxH (ii : Idx) (s : State) : Result := .next (doIdxAluHalf ii .cp .high s)

/-- CP iiL (R168). -/
def execCpIdxL (ii : Idx) (s : State) : Result := .next (doIdxAluHalf ii .cp .low s)

/-- CP (ii+d) (R168). -/
def execCpAtIdx (ii : Idx) (d : Byte) (s : State) : Result := .next (doIdxAluMem ii .cp d s)

end Sys2Proof.Machine
end

