-- ==== Sys2Proof/Machine/Bit.lean ====
section
/-! DEFINITION. The meanings of BIT, SET and RES (spec file 46_bit.md). First each operation once, over its fields, then one
meaning per mnemonic. -/

namespace Sys2Proof.Machine

/-- BIT b,r: Y and X from the register (R216). -/
def doBitReg (b : BitVec 3) (r : Reg8) (s : State) : State :=
  (s.setF (bitFlags b (s.reg r) (s.reg r) s.main.f)).took 8

/-- BIT b,(HL): Y and X from MEMPTR's high byte (R217). -/
def doBitMem (b : BitVec 3) (s : State) : State :=
  s.readMem s.hl fun v s => (s.setF (bitFlags b v (hiByte s.memptr) s.main.f)).took 12

/-- BIT b,(ii+d): Y and X from EA's high byte (R218). -/
def doIdxBit (ii : Idx) (d : Byte) (b : BitVec 3) (s : State) : State :=
  s.indexed ii d fun ea s =>
    s.readMem ea fun v s => (s.setF (bitFlags b v (hiByte ea) s.main.f)).took 20

/-- SET b,r (R219). -/
def doSetReg (b : BitVec 3) (r : Reg8) (s : State) : State := (s.setReg r (setBit b (s.reg r))).took 8

/-- SET b,(HL) (R220). -/
def doSetMem (b : BitVec 3) (s : State) : State := (s.modify s.hl (setBit b)).took 15

/-- SET b,(ii+d), with the register copy where there is one (R221). -/
def doIdxSet (ii : Idx) (d : Byte) (b : BitVec 3) (copy : Option Reg8) (s : State) : State :=
  s.indexed ii d fun ea s =>
    ((s.modify ea (setBit b)).copyTo copy (setBit b (s.peek ea))).took 23

/-- RES b,r (R222). -/
def doResReg (b : BitVec 3) (r : Reg8) (s : State) : State := (s.setReg r (resBit b (s.reg r))).took 8

/-- RES b,(HL) (R223). -/
def doResMem (b : BitVec 3) (s : State) : State := (s.modify s.hl (resBit b)).took 15

/-- RES b,(ii+d), with the register copy where there is one (R224). -/
def doIdxRes (ii : Idx) (d : Byte) (b : BitVec 3) (copy : Option Reg8) (s : State) : State :=
  s.indexed ii d fun ea s =>
    ((s.modify ea (resBit b)).copyTo copy (resBit b (s.peek ea))).took 23

/-- BIT 0,B (R216). -/
def execBit0B (s : State) : Result := .next (doBitReg 0#3 .b s)

/-- BIT 0,C (R216). -/
def execBit0C (s : State) : Result := .next (doBitReg 0#3 .c s)

/-- BIT 0,D (R216). -/
def execBit0D (s : State) : Result := .next (doBitReg 0#3 .d s)

/-- BIT 0,E (R216). -/
def execBit0E (s : State) : Result := .next (doBitReg 0#3 .e s)

/-- BIT 0,H (R216). -/
def execBit0H (s : State) : Result := .next (doBitReg 0#3 .h s)

/-- BIT 0,L (R216). -/
def execBit0L (s : State) : Result := .next (doBitReg 0#3 .l s)

/-- BIT 0,(HL) (R217). -/
def execBit0AtHl (s : State) : Result := .next (doBitMem 0#3 s)

/-- BIT 0,A (R216). -/
def execBit0A (s : State) : Result := .next (doBitReg 0#3 .a s)

/-- BIT 1,B (R216). -/
def execBit1B (s : State) : Result := .next (doBitReg 1#3 .b s)

/-- BIT 1,C (R216). -/
def execBit1C (s : State) : Result := .next (doBitReg 1#3 .c s)

/-- BIT 1,D (R216). -/
def execBit1D (s : State) : Result := .next (doBitReg 1#3 .d s)

/-- BIT 1,E (R216). -/
def execBit1E (s : State) : Result := .next (doBitReg 1#3 .e s)

/-- BIT 1,H (R216). -/
def execBit1H (s : State) : Result := .next (doBitReg 1#3 .h s)

/-- BIT 1,L (R216). -/
def execBit1L (s : State) : Result := .next (doBitReg 1#3 .l s)

/-- BIT 1,(HL) (R217). -/
def execBit1AtHl (s : State) : Result := .next (doBitMem 1#3 s)

/-- BIT 1,A (R216). -/
def execBit1A (s : State) : Result := .next (doBitReg 1#3 .a s)

/-- BIT 2,B (R216). -/
def execBit2B (s : State) : Result := .next (doBitReg 2#3 .b s)

/-- BIT 2,C (R216). -/
def execBit2C (s : State) : Result := .next (doBitReg 2#3 .c s)

/-- BIT 2,D (R216). -/
def execBit2D (s : State) : Result := .next (doBitReg 2#3 .d s)

/-- BIT 2,E (R216). -/
def execBit2E (s : State) : Result := .next (doBitReg 2#3 .e s)

/-- BIT 2,H (R216). -/
def execBit2H (s : State) : Result := .next (doBitReg 2#3 .h s)

/-- BIT 2,L (R216). -/
def execBit2L (s : State) : Result := .next (doBitReg 2#3 .l s)

/-- BIT 2,(HL) (R217). -/
def execBit2AtHl (s : State) : Result := .next (doBitMem 2#3 s)

/-- BIT 2,A (R216). -/
def execBit2A (s : State) : Result := .next (doBitReg 2#3 .a s)

/-- BIT 3,B (R216). -/
def execBit3B (s : State) : Result := .next (doBitReg 3#3 .b s)

/-- BIT 3,C (R216). -/
def execBit3C (s : State) : Result := .next (doBitReg 3#3 .c s)

/-- BIT 3,D (R216). -/
def execBit3D (s : State) : Result := .next (doBitReg 3#3 .d s)

/-- BIT 3,E (R216). -/
def execBit3E (s : State) : Result := .next (doBitReg 3#3 .e s)

/-- BIT 3,H (R216). -/
def execBit3H (s : State) : Result := .next (doBitReg 3#3 .h s)

/-- BIT 3,L (R216). -/
def execBit3L (s : State) : Result := .next (doBitReg 3#3 .l s)

/-- BIT 3,(HL) (R217). -/
def execBit3AtHl (s : State) : Result := .next (doBitMem 3#3 s)

/-- BIT 3,A (R216). -/
def execBit3A (s : State) : Result := .next (doBitReg 3#3 .a s)

/-- BIT 4,B (R216). -/
def execBit4B (s : State) : Result := .next (doBitReg 4#3 .b s)

/-- BIT 4,C (R216). -/
def execBit4C (s : State) : Result := .next (doBitReg 4#3 .c s)

/-- BIT 4,D (R216). -/
def execBit4D (s : State) : Result := .next (doBitReg 4#3 .d s)

/-- BIT 4,E (R216). -/
def execBit4E (s : State) : Result := .next (doBitReg 4#3 .e s)

/-- BIT 4,H (R216). -/
def execBit4H (s : State) : Result := .next (doBitReg 4#3 .h s)

/-- BIT 4,L (R216). -/
def execBit4L (s : State) : Result := .next (doBitReg 4#3 .l s)

/-- BIT 4,(HL) (R217). -/
def execBit4AtHl (s : State) : Result := .next (doBitMem 4#3 s)

/-- BIT 4,A (R216). -/
def execBit4A (s : State) : Result := .next (doBitReg 4#3 .a s)

/-- BIT 5,B (R216). -/
def execBit5B (s : State) : Result := .next (doBitReg 5#3 .b s)

/-- BIT 5,C (R216). -/
def execBit5C (s : State) : Result := .next (doBitReg 5#3 .c s)

/-- BIT 5,D (R216). -/
def execBit5D (s : State) : Result := .next (doBitReg 5#3 .d s)

/-- BIT 5,E (R216). -/
def execBit5E (s : State) : Result := .next (doBitReg 5#3 .e s)

/-- BIT 5,H (R216). -/
def execBit5H (s : State) : Result := .next (doBitReg 5#3 .h s)

/-- BIT 5,L (R216). -/
def execBit5L (s : State) : Result := .next (doBitReg 5#3 .l s)

/-- BIT 5,(HL) (R217). -/
def execBit5AtHl (s : State) : Result := .next (doBitMem 5#3 s)

/-- BIT 5,A (R216). -/
def execBit5A (s : State) : Result := .next (doBitReg 5#3 .a s)

/-- BIT 6,B (R216). -/
def execBit6B (s : State) : Result := .next (doBitReg 6#3 .b s)

/-- BIT 6,C (R216). -/
def execBit6C (s : State) : Result := .next (doBitReg 6#3 .c s)

/-- BIT 6,D (R216). -/
def execBit6D (s : State) : Result := .next (doBitReg 6#3 .d s)

/-- BIT 6,E (R216). -/
def execBit6E (s : State) : Result := .next (doBitReg 6#3 .e s)

/-- BIT 6,H (R216). -/
def execBit6H (s : State) : Result := .next (doBitReg 6#3 .h s)

/-- BIT 6,L (R216). -/
def execBit6L (s : State) : Result := .next (doBitReg 6#3 .l s)

/-- BIT 6,(HL) (R217). -/
def execBit6AtHl (s : State) : Result := .next (doBitMem 6#3 s)

/-- BIT 6,A (R216). -/
def execBit6A (s : State) : Result := .next (doBitReg 6#3 .a s)

/-- BIT 7,B (R216). -/
def execBit7B (s : State) : Result := .next (doBitReg 7#3 .b s)

/-- BIT 7,C (R216). -/
def execBit7C (s : State) : Result := .next (doBitReg 7#3 .c s)

/-- BIT 7,D (R216). -/
def execBit7D (s : State) : Result := .next (doBitReg 7#3 .d s)

/-- BIT 7,E (R216). -/
def execBit7E (s : State) : Result := .next (doBitReg 7#3 .e s)

/-- BIT 7,H (R216). -/
def execBit7H (s : State) : Result := .next (doBitReg 7#3 .h s)

/-- BIT 7,L (R216). -/
def execBit7L (s : State) : Result := .next (doBitReg 7#3 .l s)

/-- BIT 7,(HL) (R217). -/
def execBit7AtHl (s : State) : Result := .next (doBitMem 7#3 s)

/-- BIT 7,A (R216). -/
def execBit7A (s : State) : Result := .next (doBitReg 7#3 .a s)

/-- RES 0,B (R222). -/
def execRes0B (s : State) : Result := .next (doResReg 0#3 .b s)

/-- RES 0,C (R222). -/
def execRes0C (s : State) : Result := .next (doResReg 0#3 .c s)

/-- RES 0,D (R222). -/
def execRes0D (s : State) : Result := .next (doResReg 0#3 .d s)

/-- RES 0,E (R222). -/
def execRes0E (s : State) : Result := .next (doResReg 0#3 .e s)

/-- RES 0,H (R222). -/
def execRes0H (s : State) : Result := .next (doResReg 0#3 .h s)

/-- RES 0,L (R222). -/
def execRes0L (s : State) : Result := .next (doResReg 0#3 .l s)

/-- RES 0,(HL) (R223). -/
def execRes0AtHl (s : State) : Result := .next (doResMem 0#3 s)

/-- RES 0,A (R222). -/
def execRes0A (s : State) : Result := .next (doResReg 0#3 .a s)

/-- RES 1,B (R222). -/
def execRes1B (s : State) : Result := .next (doResReg 1#3 .b s)

/-- RES 1,C (R222). -/
def execRes1C (s : State) : Result := .next (doResReg 1#3 .c s)

/-- RES 1,D (R222). -/
def execRes1D (s : State) : Result := .next (doResReg 1#3 .d s)

/-- RES 1,E (R222). -/
def execRes1E (s : State) : Result := .next (doResReg 1#3 .e s)

/-- RES 1,H (R222). -/
def execRes1H (s : State) : Result := .next (doResReg 1#3 .h s)

/-- RES 1,L (R222). -/
def execRes1L (s : State) : Result := .next (doResReg 1#3 .l s)

/-- RES 1,(HL) (R223). -/
def execRes1AtHl (s : State) : Result := .next (doResMem 1#3 s)

/-- RES 1,A (R222). -/
def execRes1A (s : State) : Result := .next (doResReg 1#3 .a s)

/-- RES 2,B (R222). -/
def execRes2B (s : State) : Result := .next (doResReg 2#3 .b s)

/-- RES 2,C (R222). -/
def execRes2C (s : State) : Result := .next (doResReg 2#3 .c s)

/-- RES 2,D (R222). -/
def execRes2D (s : State) : Result := .next (doResReg 2#3 .d s)

/-- RES 2,E (R222). -/
def execRes2E (s : State) : Result := .next (doResReg 2#3 .e s)

/-- RES 2,H (R222). -/
def execRes2H (s : State) : Result := .next (doResReg 2#3 .h s)

/-- RES 2,L (R222). -/
def execRes2L (s : State) : Result := .next (doResReg 2#3 .l s)

/-- RES 2,(HL) (R223). -/
def execRes2AtHl (s : State) : Result := .next (doResMem 2#3 s)

/-- RES 2,A (R222). -/
def execRes2A (s : State) : Result := .next (doResReg 2#3 .a s)

/-- RES 3,B (R222). -/
def execRes3B (s : State) : Result := .next (doResReg 3#3 .b s)

/-- RES 3,C (R222). -/
def execRes3C (s : State) : Result := .next (doResReg 3#3 .c s)

/-- RES 3,D (R222). -/
def execRes3D (s : State) : Result := .next (doResReg 3#3 .d s)

/-- RES 3,E (R222). -/
def execRes3E (s : State) : Result := .next (doResReg 3#3 .e s)

/-- RES 3,H (R222). -/
def execRes3H (s : State) : Result := .next (doResReg 3#3 .h s)

/-- RES 3,L (R222). -/
def execRes3L (s : State) : Result := .next (doResReg 3#3 .l s)

/-- RES 3,(HL) (R223). -/
def execRes3AtHl (s : State) : Result := .next (doResMem 3#3 s)

/-- RES 3,A (R222). -/
def execRes3A (s : State) : Result := .next (doResReg 3#3 .a s)

/-- RES 4,B (R222). -/
def execRes4B (s : State) : Result := .next (doResReg 4#3 .b s)

/-- RES 4,C (R222). -/
def execRes4C (s : State) : Result := .next (doResReg 4#3 .c s)

/-- RES 4,D (R222). -/
def execRes4D (s : State) : Result := .next (doResReg 4#3 .d s)

/-- RES 4,E (R222). -/
def execRes4E (s : State) : Result := .next (doResReg 4#3 .e s)

/-- RES 4,H (R222). -/
def execRes4H (s : State) : Result := .next (doResReg 4#3 .h s)

/-- RES 4,L (R222). -/
def execRes4L (s : State) : Result := .next (doResReg 4#3 .l s)

/-- RES 4,(HL) (R223). -/
def execRes4AtHl (s : State) : Result := .next (doResMem 4#3 s)

/-- RES 4,A (R222). -/
def execRes4A (s : State) : Result := .next (doResReg 4#3 .a s)

/-- RES 5,B (R222). -/
def execRes5B (s : State) : Result := .next (doResReg 5#3 .b s)

/-- RES 5,C (R222). -/
def execRes5C (s : State) : Result := .next (doResReg 5#3 .c s)

/-- RES 5,D (R222). -/
def execRes5D (s : State) : Result := .next (doResReg 5#3 .d s)

/-- RES 5,E (R222). -/
def execRes5E (s : State) : Result := .next (doResReg 5#3 .e s)

/-- RES 5,H (R222). -/
def execRes5H (s : State) : Result := .next (doResReg 5#3 .h s)

/-- RES 5,L (R222). -/
def execRes5L (s : State) : Result := .next (doResReg 5#3 .l s)

/-- RES 5,(HL) (R223). -/
def execRes5AtHl (s : State) : Result := .next (doResMem 5#3 s)

/-- RES 5,A (R222). -/
def execRes5A (s : State) : Result := .next (doResReg 5#3 .a s)

/-- RES 6,B (R222). -/
def execRes6B (s : State) : Result := .next (doResReg 6#3 .b s)

/-- RES 6,C (R222). -/
def execRes6C (s : State) : Result := .next (doResReg 6#3 .c s)

/-- RES 6,D (R222). -/
def execRes6D (s : State) : Result := .next (doResReg 6#3 .d s)

/-- RES 6,E (R222). -/
def execRes6E (s : State) : Result := .next (doResReg 6#3 .e s)

/-- RES 6,H (R222). -/
def execRes6H (s : State) : Result := .next (doResReg 6#3 .h s)

/-- RES 6,L (R222). -/
def execRes6L (s : State) : Result := .next (doResReg 6#3 .l s)

/-- RES 6,(HL) (R223). -/
def execRes6AtHl (s : State) : Result := .next (doResMem 6#3 s)

/-- RES 6,A (R222). -/
def execRes6A (s : State) : Result := .next (doResReg 6#3 .a s)

/-- RES 7,B (R222). -/
def execRes7B (s : State) : Result := .next (doResReg 7#3 .b s)

/-- RES 7,C (R222). -/
def execRes7C (s : State) : Result := .next (doResReg 7#3 .c s)

/-- RES 7,D (R222). -/
def execRes7D (s : State) : Result := .next (doResReg 7#3 .d s)

/-- RES 7,E (R222). -/
def execRes7E (s : State) : Result := .next (doResReg 7#3 .e s)

/-- RES 7,H (R222). -/
def execRes7H (s : State) : Result := .next (doResReg 7#3 .h s)

/-- RES 7,L (R222). -/
def execRes7L (s : State) : Result := .next (doResReg 7#3 .l s)

/-- RES 7,(HL) (R223). -/
def execRes7AtHl (s : State) : Result := .next (doResMem 7#3 s)

/-- RES 7,A (R222). -/
def execRes7A (s : State) : Result := .next (doResReg 7#3 .a s)

/-- SET 0,B (R219). -/
def execSet0B (s : State) : Result := .next (doSetReg 0#3 .b s)

/-- SET 0,C (R219). -/
def execSet0C (s : State) : Result := .next (doSetReg 0#3 .c s)

/-- SET 0,D (R219). -/
def execSet0D (s : State) : Result := .next (doSetReg 0#3 .d s)

/-- SET 0,E (R219). -/
def execSet0E (s : State) : Result := .next (doSetReg 0#3 .e s)

/-- SET 0,H (R219). -/
def execSet0H (s : State) : Result := .next (doSetReg 0#3 .h s)

/-- SET 0,L (R219). -/
def execSet0L (s : State) : Result := .next (doSetReg 0#3 .l s)

/-- SET 0,(HL) (R220). -/
def execSet0AtHl (s : State) : Result := .next (doSetMem 0#3 s)

/-- SET 0,A (R219). -/
def execSet0A (s : State) : Result := .next (doSetReg 0#3 .a s)

/-- SET 1,B (R219). -/
def execSet1B (s : State) : Result := .next (doSetReg 1#3 .b s)

/-- SET 1,C (R219). -/
def execSet1C (s : State) : Result := .next (doSetReg 1#3 .c s)

/-- SET 1,D (R219). -/
def execSet1D (s : State) : Result := .next (doSetReg 1#3 .d s)

/-- SET 1,E (R219). -/
def execSet1E (s : State) : Result := .next (doSetReg 1#3 .e s)

/-- SET 1,H (R219). -/
def execSet1H (s : State) : Result := .next (doSetReg 1#3 .h s)

/-- SET 1,L (R219). -/
def execSet1L (s : State) : Result := .next (doSetReg 1#3 .l s)

/-- SET 1,(HL) (R220). -/
def execSet1AtHl (s : State) : Result := .next (doSetMem 1#3 s)

/-- SET 1,A (R219). -/
def execSet1A (s : State) : Result := .next (doSetReg 1#3 .a s)

/-- SET 2,B (R219). -/
def execSet2B (s : State) : Result := .next (doSetReg 2#3 .b s)

/-- SET 2,C (R219). -/
def execSet2C (s : State) : Result := .next (doSetReg 2#3 .c s)

/-- SET 2,D (R219). -/
def execSet2D (s : State) : Result := .next (doSetReg 2#3 .d s)

/-- SET 2,E (R219). -/
def execSet2E (s : State) : Result := .next (doSetReg 2#3 .e s)

/-- SET 2,H (R219). -/
def execSet2H (s : State) : Result := .next (doSetReg 2#3 .h s)

/-- SET 2,L (R219). -/
def execSet2L (s : State) : Result := .next (doSetReg 2#3 .l s)

/-- SET 2,(HL) (R220). -/
def execSet2AtHl (s : State) : Result := .next (doSetMem 2#3 s)

/-- SET 2,A (R219). -/
def execSet2A (s : State) : Result := .next (doSetReg 2#3 .a s)

/-- SET 3,B (R219). -/
def execSet3B (s : State) : Result := .next (doSetReg 3#3 .b s)

/-- SET 3,C (R219). -/
def execSet3C (s : State) : Result := .next (doSetReg 3#3 .c s)

/-- SET 3,D (R219). -/
def execSet3D (s : State) : Result := .next (doSetReg 3#3 .d s)

/-- SET 3,E (R219). -/
def execSet3E (s : State) : Result := .next (doSetReg 3#3 .e s)

/-- SET 3,H (R219). -/
def execSet3H (s : State) : Result := .next (doSetReg 3#3 .h s)

/-- SET 3,L (R219). -/
def execSet3L (s : State) : Result := .next (doSetReg 3#3 .l s)

/-- SET 3,(HL) (R220). -/
def execSet3AtHl (s : State) : Result := .next (doSetMem 3#3 s)

/-- SET 3,A (R219). -/
def execSet3A (s : State) : Result := .next (doSetReg 3#3 .a s)

/-- SET 4,B (R219). -/
def execSet4B (s : State) : Result := .next (doSetReg 4#3 .b s)

/-- SET 4,C (R219). -/
def execSet4C (s : State) : Result := .next (doSetReg 4#3 .c s)

/-- SET 4,D (R219). -/
def execSet4D (s : State) : Result := .next (doSetReg 4#3 .d s)

/-- SET 4,E (R219). -/
def execSet4E (s : State) : Result := .next (doSetReg 4#3 .e s)

/-- SET 4,H (R219). -/
def execSet4H (s : State) : Result := .next (doSetReg 4#3 .h s)

/-- SET 4,L (R219). -/
def execSet4L (s : State) : Result := .next (doSetReg 4#3 .l s)

/-- SET 4,(HL) (R220). -/
def execSet4AtHl (s : State) : Result := .next (doSetMem 4#3 s)

/-- SET 4,A (R219). -/
def execSet4A (s : State) : Result := .next (doSetReg 4#3 .a s)

/-- SET 5,B (R219). -/
def execSet5B (s : State) : Result := .next (doSetReg 5#3 .b s)

/-- SET 5,C (R219). -/
def execSet5C (s : State) : Result := .next (doSetReg 5#3 .c s)

/-- SET 5,D (R219). -/
def execSet5D (s : State) : Result := .next (doSetReg 5#3 .d s)

/-- SET 5,E (R219). -/
def execSet5E (s : State) : Result := .next (doSetReg 5#3 .e s)

/-- SET 5,H (R219). -/
def execSet5H (s : State) : Result := .next (doSetReg 5#3 .h s)

/-- SET 5,L (R219). -/
def execSet5L (s : State) : Result := .next (doSetReg 5#3 .l s)

/-- SET 5,(HL) (R220). -/
def execSet5AtHl (s : State) : Result := .next (doSetMem 5#3 s)

/-- SET 5,A (R219). -/
def execSet5A (s : State) : Result := .next (doSetReg 5#3 .a s)

/-- SET 6,B (R219). -/
def execSet6B (s : State) : Result := .next (doSetReg 6#3 .b s)

/-- SET 6,C (R219). -/
def execSet6C (s : State) : Result := .next (doSetReg 6#3 .c s)

/-- SET 6,D (R219). -/
def execSet6D (s : State) : Result := .next (doSetReg 6#3 .d s)

/-- SET 6,E (R219). -/
def execSet6E (s : State) : Result := .next (doSetReg 6#3 .e s)

/-- SET 6,H (R219). -/
def execSet6H (s : State) : Result := .next (doSetReg 6#3 .h s)

/-- SET 6,L (R219). -/
def execSet6L (s : State) : Result := .next (doSetReg 6#3 .l s)

/-- SET 6,(HL) (R220). -/
def execSet6AtHl (s : State) : Result := .next (doSetMem 6#3 s)

/-- SET 6,A (R219). -/
def execSet6A (s : State) : Result := .next (doSetReg 6#3 .a s)

/-- SET 7,B (R219). -/
def execSet7B (s : State) : Result := .next (doSetReg 7#3 .b s)

/-- SET 7,C (R219). -/
def execSet7C (s : State) : Result := .next (doSetReg 7#3 .c s)

/-- SET 7,D (R219). -/
def execSet7D (s : State) : Result := .next (doSetReg 7#3 .d s)

/-- SET 7,E (R219). -/
def execSet7E (s : State) : Result := .next (doSetReg 7#3 .e s)

/-- SET 7,H (R219). -/
def execSet7H (s : State) : Result := .next (doSetReg 7#3 .h s)

/-- SET 7,L (R219). -/
def execSet7L (s : State) : Result := .next (doSetReg 7#3 .l s)

/-- SET 7,(HL) (R220). -/
def execSet7AtHl (s : State) : Result := .next (doSetMem 7#3 s)

/-- SET 7,A (R219). -/
def execSet7A (s : State) : Result := .next (doSetReg 7#3 .a s)

/-- BIT 0,(ii+d) (R218). -/
def execBit0AtIdx (ii : Idx) (d : Byte) (_z : BitVec 3) (s : State) : Result := .next (doIdxBit ii d 0#3 s)

/-- BIT 1,(ii+d) (R218). -/
def execBit1AtIdx (ii : Idx) (d : Byte) (_z : BitVec 3) (s : State) : Result := .next (doIdxBit ii d 1#3 s)

/-- BIT 2,(ii+d) (R218). -/
def execBit2AtIdx (ii : Idx) (d : Byte) (_z : BitVec 3) (s : State) : Result := .next (doIdxBit ii d 2#3 s)

/-- BIT 3,(ii+d) (R218). -/
def execBit3AtIdx (ii : Idx) (d : Byte) (_z : BitVec 3) (s : State) : Result := .next (doIdxBit ii d 3#3 s)

/-- BIT 4,(ii+d) (R218). -/
def execBit4AtIdx (ii : Idx) (d : Byte) (_z : BitVec 3) (s : State) : Result := .next (doIdxBit ii d 4#3 s)

/-- BIT 5,(ii+d) (R218). -/
def execBit5AtIdx (ii : Idx) (d : Byte) (_z : BitVec 3) (s : State) : Result := .next (doIdxBit ii d 5#3 s)

/-- BIT 6,(ii+d) (R218). -/
def execBit6AtIdx (ii : Idx) (d : Byte) (_z : BitVec 3) (s : State) : Result := .next (doIdxBit ii d 6#3 s)

/-- BIT 7,(ii+d) (R218). -/
def execBit7AtIdx (ii : Idx) (d : Byte) (_z : BitVec 3) (s : State) : Result := .next (doIdxBit ii d 7#3 s)

/-- RES 0,(ii+d),B (R224). -/
def execRes0AtIdxB (ii : Idx) (d : Byte) (s : State) : Result := .next (doIdxRes ii d 0#3 (some .b) s)

/-- RES 0,(ii+d),C (R224). -/
def execRes0AtIdxC (ii : Idx) (d : Byte) (s : State) : Result := .next (doIdxRes ii d 0#3 (some .c) s)

/-- RES 0,(ii+d),D (R224). -/
def execRes0AtIdxD (ii : Idx) (d : Byte) (s : State) : Result := .next (doIdxRes ii d 0#3 (some .d) s)

/-- RES 0,(ii+d),E (R224). -/
def execRes0AtIdxE (ii : Idx) (d : Byte) (s : State) : Result := .next (doIdxRes ii d 0#3 (some .e) s)

/-- RES 0,(ii+d),H (R224). -/
def execRes0AtIdxH (ii : Idx) (d : Byte) (s : State) : Result := .next (doIdxRes ii d 0#3 (some .h) s)

/-- RES 0,(ii+d),L (R224). -/
def execRes0AtIdxL (ii : Idx) (d : Byte) (s : State) : Result := .next (doIdxRes ii d 0#3 (some .l) s)

/-- RES 0,(ii+d) (R224). -/
def execRes0AtIdx (ii : Idx) (d : Byte) (s : State) : Result := .next (doIdxRes ii d 0#3 none s)

/-- RES 0,(ii+d),A (R224). -/
def execRes0AtIdxA (ii : Idx) (d : Byte) (s : State) : Result := .next (doIdxRes ii d 0#3 (some .a) s)

/-- RES 1,(ii+d),B (R224). -/
def execRes1AtIdxB (ii : Idx) (d : Byte) (s : State) : Result := .next (doIdxRes ii d 1#3 (some .b) s)

/-- RES 1,(ii+d),C (R224). -/
def execRes1AtIdxC (ii : Idx) (d : Byte) (s : State) : Result := .next (doIdxRes ii d 1#3 (some .c) s)

/-- RES 1,(ii+d),D (R224). -/
def execRes1AtIdxD (ii : Idx) (d : Byte) (s : State) : Result := .next (doIdxRes ii d 1#3 (some .d) s)

/-- RES 1,(ii+d),E (R224). -/
def execRes1AtIdxE (ii : Idx) (d : Byte) (s : State) : Result := .next (doIdxRes ii d 1#3 (some .e) s)

/-- RES 1,(ii+d),H (R224). -/
def execRes1AtIdxH (ii : Idx) (d : Byte) (s : State) : Result := .next (doIdxRes ii d 1#3 (some .h) s)

/-- RES 1,(ii+d),L (R224). -/
def execRes1AtIdxL (ii : Idx) (d : Byte) (s : State) : Result := .next (doIdxRes ii d 1#3 (some .l) s)

/-- RES 1,(ii+d) (R224). -/
def execRes1AtIdx (ii : Idx) (d : Byte) (s : State) : Result := .next (doIdxRes ii d 1#3 none s)

/-- RES 1,(ii+d),A (R224). -/
def execRes1AtIdxA (ii : Idx) (d : Byte) (s : State) : Result := .next (doIdxRes ii d 1#3 (some .a) s)

/-- RES 2,(ii+d),B (R224). -/
def execRes2AtIdxB (ii : Idx) (d : Byte) (s : State) : Result := .next (doIdxRes ii d 2#3 (some .b) s)

/-- RES 2,(ii+d),C (R224). -/
def execRes2AtIdxC (ii : Idx) (d : Byte) (s : State) : Result := .next (doIdxRes ii d 2#3 (some .c) s)

/-- RES 2,(ii+d),D (R224). -/
def execRes2AtIdxD (ii : Idx) (d : Byte) (s : State) : Result := .next (doIdxRes ii d 2#3 (some .d) s)

/-- RES 2,(ii+d),E (R224). -/
def execRes2AtIdxE (ii : Idx) (d : Byte) (s : State) : Result := .next (doIdxRes ii d 2#3 (some .e) s)

/-- RES 2,(ii+d),H (R224). -/
def execRes2AtIdxH (ii : Idx) (d : Byte) (s : State) : Result := .next (doIdxRes ii d 2#3 (some .h) s)

/-- RES 2,(ii+d),L (R224). -/
def execRes2AtIdxL (ii : Idx) (d : Byte) (s : State) : Result := .next (doIdxRes ii d 2#3 (some .l) s)

/-- RES 2,(ii+d) (R224). -/
def execRes2AtIdx (ii : Idx) (d : Byte) (s : State) : Result := .next (doIdxRes ii d 2#3 none s)

/-- RES 2,(ii+d),A (R224). -/
def execRes2AtIdxA (ii : Idx) (d : Byte) (s : State) : Result := .next (doIdxRes ii d 2#3 (some .a) s)

/-- RES 3,(ii+d),B (R224). -/
def execRes3AtIdxB (ii : Idx) (d : Byte) (s : State) : Result := .next (doIdxRes ii d 3#3 (some .b) s)

/-- RES 3,(ii+d),C (R224). -/
def execRes3AtIdxC (ii : Idx) (d : Byte) (s : State) : Result := .next (doIdxRes ii d 3#3 (some .c) s)

/-- RES 3,(ii+d),D (R224). -/
def execRes3AtIdxD (ii : Idx) (d : Byte) (s : State) : Result := .next (doIdxRes ii d 3#3 (some .d) s)

/-- RES 3,(ii+d),E (R224). -/
def execRes3AtIdxE (ii : Idx) (d : Byte) (s : State) : Result := .next (doIdxRes ii d 3#3 (some .e) s)

/-- RES 3,(ii+d),H (R224). -/
def execRes3AtIdxH (ii : Idx) (d : Byte) (s : State) : Result := .next (doIdxRes ii d 3#3 (some .h) s)

/-- RES 3,(ii+d),L (R224). -/
def execRes3AtIdxL (ii : Idx) (d : Byte) (s : State) : Result := .next (doIdxRes ii d 3#3 (some .l) s)

/-- RES 3,(ii+d) (R224). -/
def execRes3AtIdx (ii : Idx) (d : Byte) (s : State) : Result := .next (doIdxRes ii d 3#3 none s)

/-- RES 3,(ii+d),A (R224). -/
def execRes3AtIdxA (ii : Idx) (d : Byte) (s : State) : Result := .next (doIdxRes ii d 3#3 (some .a) s)

/-- RES 4,(ii+d),B (R224). -/
def execRes4AtIdxB (ii : Idx) (d : Byte) (s : State) : Result := .next (doIdxRes ii d 4#3 (some .b) s)

/-- RES 4,(ii+d),C (R224). -/
def execRes4AtIdxC (ii : Idx) (d : Byte) (s : State) : Result := .next (doIdxRes ii d 4#3 (some .c) s)

/-- RES 4,(ii+d),D (R224). -/
def execRes4AtIdxD (ii : Idx) (d : Byte) (s : State) : Result := .next (doIdxRes ii d 4#3 (some .d) s)

/-- RES 4,(ii+d),E (R224). -/
def execRes4AtIdxE (ii : Idx) (d : Byte) (s : State) : Result := .next (doIdxRes ii d 4#3 (some .e) s)

/-- RES 4,(ii+d),H (R224). -/
def execRes4AtIdxH (ii : Idx) (d : Byte) (s : State) : Result := .next (doIdxRes ii d 4#3 (some .h) s)

/-- RES 4,(ii+d),L (R224). -/
def execRes4AtIdxL (ii : Idx) (d : Byte) (s : State) : Result := .next (doIdxRes ii d 4#3 (some .l) s)

/-- RES 4,(ii+d) (R224). -/
def execRes4AtIdx (ii : Idx) (d : Byte) (s : State) : Result := .next (doIdxRes ii d 4#3 none s)

/-- RES 4,(ii+d),A (R224). -/
def execRes4AtIdxA (ii : Idx) (d : Byte) (s : State) : Result := .next (doIdxRes ii d 4#3 (some .a) s)

/-- RES 5,(ii+d),B (R224). -/
def execRes5AtIdxB (ii : Idx) (d : Byte) (s : State) : Result := .next (doIdxRes ii d 5#3 (some .b) s)

/-- RES 5,(ii+d),C (R224). -/
def execRes5AtIdxC (ii : Idx) (d : Byte) (s : State) : Result := .next (doIdxRes ii d 5#3 (some .c) s)

/-- RES 5,(ii+d),D (R224). -/
def execRes5AtIdxD (ii : Idx) (d : Byte) (s : State) : Result := .next (doIdxRes ii d 5#3 (some .d) s)

/-- RES 5,(ii+d),E (R224). -/
def execRes5AtIdxE (ii : Idx) (d : Byte) (s : State) : Result := .next (doIdxRes ii d 5#3 (some .e) s)

/-- RES 5,(ii+d),H (R224). -/
def execRes5AtIdxH (ii : Idx) (d : Byte) (s : State) : Result := .next (doIdxRes ii d 5#3 (some .h) s)

/-- RES 5,(ii+d),L (R224). -/
def execRes5AtIdxL (ii : Idx) (d : Byte) (s : State) : Result := .next (doIdxRes ii d 5#3 (some .l) s)

/-- RES 5,(ii+d) (R224). -/
def execRes5AtIdx (ii : Idx) (d : Byte) (s : State) : Result := .next (doIdxRes ii d 5#3 none s)

/-- RES 5,(ii+d),A (R224). -/
def execRes5AtIdxA (ii : Idx) (d : Byte) (s : State) : Result := .next (doIdxRes ii d 5#3 (some .a) s)

/-- RES 6,(ii+d),B (R224). -/
def execRes6AtIdxB (ii : Idx) (d : Byte) (s : State) : Result := .next (doIdxRes ii d 6#3 (some .b) s)

/-- RES 6,(ii+d),C (R224). -/
def execRes6AtIdxC (ii : Idx) (d : Byte) (s : State) : Result := .next (doIdxRes ii d 6#3 (some .c) s)

/-- RES 6,(ii+d),D (R224). -/
def execRes6AtIdxD (ii : Idx) (d : Byte) (s : State) : Result := .next (doIdxRes ii d 6#3 (some .d) s)

/-- RES 6,(ii+d),E (R224). -/
def execRes6AtIdxE (ii : Idx) (d : Byte) (s : State) : Result := .next (doIdxRes ii d 6#3 (some .e) s)

/-- RES 6,(ii+d),H (R224). -/
def execRes6AtIdxH (ii : Idx) (d : Byte) (s : State) : Result := .next (doIdxRes ii d 6#3 (some .h) s)

/-- RES 6,(ii+d),L (R224). -/
def execRes6AtIdxL (ii : Idx) (d : Byte) (s : State) : Result := .next (doIdxRes ii d 6#3 (some .l) s)

/-- RES 6,(ii+d) (R224). -/
def execRes6AtIdx (ii : Idx) (d : Byte) (s : State) : Result := .next (doIdxRes ii d 6#3 none s)

/-- RES 6,(ii+d),A (R224). -/
def execRes6AtIdxA (ii : Idx) (d : Byte) (s : State) : Result := .next (doIdxRes ii d 6#3 (some .a) s)

/-- RES 7,(ii+d),B (R224). -/
def execRes7AtIdxB (ii : Idx) (d : Byte) (s : State) : Result := .next (doIdxRes ii d 7#3 (some .b) s)

/-- RES 7,(ii+d),C (R224). -/
def execRes7AtIdxC (ii : Idx) (d : Byte) (s : State) : Result := .next (doIdxRes ii d 7#3 (some .c) s)

/-- RES 7,(ii+d),D (R224). -/
def execRes7AtIdxD (ii : Idx) (d : Byte) (s : State) : Result := .next (doIdxRes ii d 7#3 (some .d) s)

/-- RES 7,(ii+d),E (R224). -/
def execRes7AtIdxE (ii : Idx) (d : Byte) (s : State) : Result := .next (doIdxRes ii d 7#3 (some .e) s)

/-- RES 7,(ii+d),H (R224). -/
def execRes7AtIdxH (ii : Idx) (d : Byte) (s : State) : Result := .next (doIdxRes ii d 7#3 (some .h) s)

/-- RES 7,(ii+d),L (R224). -/
def execRes7AtIdxL (ii : Idx) (d : Byte) (s : State) : Result := .next (doIdxRes ii d 7#3 (some .l) s)

/-- RES 7,(ii+d) (R224). -/
def execRes7AtIdx (ii : Idx) (d : Byte) (s : State) : Result := .next (doIdxRes ii d 7#3 none s)

/-- RES 7,(ii+d),A (R224). -/
def execRes7AtIdxA (ii : Idx) (d : Byte) (s : State) : Result := .next (doIdxRes ii d 7#3 (some .a) s)

/-- SET 0,(ii+d),B (R221). -/
def execSet0AtIdxB (ii : Idx) (d : Byte) (s : State) : Result := .next (doIdxSet ii d 0#3 (some .b) s)

/-- SET 0,(ii+d),C (R221). -/
def execSet0AtIdxC (ii : Idx) (d : Byte) (s : State) : Result := .next (doIdxSet ii d 0#3 (some .c) s)

/-- SET 0,(ii+d),D (R221). -/
def execSet0AtIdxD (ii : Idx) (d : Byte) (s : State) : Result := .next (doIdxSet ii d 0#3 (some .d) s)

/-- SET 0,(ii+d),E (R221). -/
def execSet0AtIdxE (ii : Idx) (d : Byte) (s : State) : Result := .next (doIdxSet ii d 0#3 (some .e) s)

/-- SET 0,(ii+d),H (R221). -/
def execSet0AtIdxH (ii : Idx) (d : Byte) (s : State) : Result := .next (doIdxSet ii d 0#3 (some .h) s)

/-- SET 0,(ii+d),L (R221). -/
def execSet0AtIdxL (ii : Idx) (d : Byte) (s : State) : Result := .next (doIdxSet ii d 0#3 (some .l) s)

/-- SET 0,(ii+d) (R221). -/
def execSet0AtIdx (ii : Idx) (d : Byte) (s : State) : Result := .next (doIdxSet ii d 0#3 none s)

/-- SET 0,(ii+d),A (R221). -/
def execSet0AtIdxA (ii : Idx) (d : Byte) (s : State) : Result := .next (doIdxSet ii d 0#3 (some .a) s)

/-- SET 1,(ii+d),B (R221). -/
def execSet1AtIdxB (ii : Idx) (d : Byte) (s : State) : Result := .next (doIdxSet ii d 1#3 (some .b) s)

/-- SET 1,(ii+d),C (R221). -/
def execSet1AtIdxC (ii : Idx) (d : Byte) (s : State) : Result := .next (doIdxSet ii d 1#3 (some .c) s)

/-- SET 1,(ii+d),D (R221). -/
def execSet1AtIdxD (ii : Idx) (d : Byte) (s : State) : Result := .next (doIdxSet ii d 1#3 (some .d) s)

/-- SET 1,(ii+d),E (R221). -/
def execSet1AtIdxE (ii : Idx) (d : Byte) (s : State) : Result := .next (doIdxSet ii d 1#3 (some .e) s)

/-- SET 1,(ii+d),H (R221). -/
def execSet1AtIdxH (ii : Idx) (d : Byte) (s : State) : Result := .next (doIdxSet ii d 1#3 (some .h) s)

/-- SET 1,(ii+d),L (R221). -/
def execSet1AtIdxL (ii : Idx) (d : Byte) (s : State) : Result := .next (doIdxSet ii d 1#3 (some .l) s)

/-- SET 1,(ii+d) (R221). -/
def execSet1AtIdx (ii : Idx) (d : Byte) (s : State) : Result := .next (doIdxSet ii d 1#3 none s)

/-- SET 1,(ii+d),A (R221). -/
def execSet1AtIdxA (ii : Idx) (d : Byte) (s : State) : Result := .next (doIdxSet ii d 1#3 (some .a) s)

/-- SET 2,(ii+d),B (R221). -/
def execSet2AtIdxB (ii : Idx) (d : Byte) (s : State) : Result := .next (doIdxSet ii d 2#3 (some .b) s)

/-- SET 2,(ii+d),C (R221). -/
def execSet2AtIdxC (ii : Idx) (d : Byte) (s : State) : Result := .next (doIdxSet ii d 2#3 (some .c) s)

/-- SET 2,(ii+d),D (R221). -/
def execSet2AtIdxD (ii : Idx) (d : Byte) (s : State) : Result := .next (doIdxSet ii d 2#3 (some .d) s)

/-- SET 2,(ii+d),E (R221). -/
def execSet2AtIdxE (ii : Idx) (d : Byte) (s : State) : Result := .next (doIdxSet ii d 2#3 (some .e) s)

/-- SET 2,(ii+d),H (R221). -/
def execSet2AtIdxH (ii : Idx) (d : Byte) (s : State) : Result := .next (doIdxSet ii d 2#3 (some .h) s)

/-- SET 2,(ii+d),L (R221). -/
def execSet2AtIdxL (ii : Idx) (d : Byte) (s : State) : Result := .next (doIdxSet ii d 2#3 (some .l) s)

/-- SET 2,(ii+d) (R221). -/
def execSet2AtIdx (ii : Idx) (d : Byte) (s : State) : Result := .next (doIdxSet ii d 2#3 none s)

/-- SET 2,(ii+d),A (R221). -/
def execSet2AtIdxA (ii : Idx) (d : Byte) (s : State) : Result := .next (doIdxSet ii d 2#3 (some .a) s)

/-- SET 3,(ii+d),B (R221). -/
def execSet3AtIdxB (ii : Idx) (d : Byte) (s : State) : Result := .next (doIdxSet ii d 3#3 (some .b) s)

/-- SET 3,(ii+d),C (R221). -/
def execSet3AtIdxC (ii : Idx) (d : Byte) (s : State) : Result := .next (doIdxSet ii d 3#3 (some .c) s)

/-- SET 3,(ii+d),D (R221). -/
def execSet3AtIdxD (ii : Idx) (d : Byte) (s : State) : Result := .next (doIdxSet ii d 3#3 (some .d) s)

/-- SET 3,(ii+d),E (R221). -/
def execSet3AtIdxE (ii : Idx) (d : Byte) (s : State) : Result := .next (doIdxSet ii d 3#3 (some .e) s)

/-- SET 3,(ii+d),H (R221). -/
def execSet3AtIdxH (ii : Idx) (d : Byte) (s : State) : Result := .next (doIdxSet ii d 3#3 (some .h) s)

/-- SET 3,(ii+d),L (R221). -/
def execSet3AtIdxL (ii : Idx) (d : Byte) (s : State) : Result := .next (doIdxSet ii d 3#3 (some .l) s)

/-- SET 3,(ii+d) (R221). -/
def execSet3AtIdx (ii : Idx) (d : Byte) (s : State) : Result := .next (doIdxSet ii d 3#3 none s)

/-- SET 3,(ii+d),A (R221). -/
def execSet3AtIdxA (ii : Idx) (d : Byte) (s : State) : Result := .next (doIdxSet ii d 3#3 (some .a) s)

/-- SET 4,(ii+d),B (R221). -/
def execSet4AtIdxB (ii : Idx) (d : Byte) (s : State) : Result := .next (doIdxSet ii d 4#3 (some .b) s)

/-- SET 4,(ii+d),C (R221). -/
def execSet4AtIdxC (ii : Idx) (d : Byte) (s : State) : Result := .next (doIdxSet ii d 4#3 (some .c) s)

/-- SET 4,(ii+d),D (R221). -/
def execSet4AtIdxD (ii : Idx) (d : Byte) (s : State) : Result := .next (doIdxSet ii d 4#3 (some .d) s)

/-- SET 4,(ii+d),E (R221). -/
def execSet4AtIdxE (ii : Idx) (d : Byte) (s : State) : Result := .next (doIdxSet ii d 4#3 (some .e) s)

/-- SET 4,(ii+d),H (R221). -/
def execSet4AtIdxH (ii : Idx) (d : Byte) (s : State) : Result := .next (doIdxSet ii d 4#3 (some .h) s)

/-- SET 4,(ii+d),L (R221). -/
def execSet4AtIdxL (ii : Idx) (d : Byte) (s : State) : Result := .next (doIdxSet ii d 4#3 (some .l) s)

/-- SET 4,(ii+d) (R221). -/
def execSet4AtIdx (ii : Idx) (d : Byte) (s : State) : Result := .next (doIdxSet ii d 4#3 none s)

/-- SET 4,(ii+d),A (R221). -/
def execSet4AtIdxA (ii : Idx) (d : Byte) (s : State) : Result := .next (doIdxSet ii d 4#3 (some .a) s)

/-- SET 5,(ii+d),B (R221). -/
def execSet5AtIdxB (ii : Idx) (d : Byte) (s : State) : Result := .next (doIdxSet ii d 5#3 (some .b) s)

/-- SET 5,(ii+d),C (R221). -/
def execSet5AtIdxC (ii : Idx) (d : Byte) (s : State) : Result := .next (doIdxSet ii d 5#3 (some .c) s)

/-- SET 5,(ii+d),D (R221). -/
def execSet5AtIdxD (ii : Idx) (d : Byte) (s : State) : Result := .next (doIdxSet ii d 5#3 (some .d) s)

/-- SET 5,(ii+d),E (R221). -/
def execSet5AtIdxE (ii : Idx) (d : Byte) (s : State) : Result := .next (doIdxSet ii d 5#3 (some .e) s)

/-- SET 5,(ii+d),H (R221). -/
def execSet5AtIdxH (ii : Idx) (d : Byte) (s : State) : Result := .next (doIdxSet ii d 5#3 (some .h) s)

/-- SET 5,(ii+d),L (R221). -/
def execSet5AtIdxL (ii : Idx) (d : Byte) (s : State) : Result := .next (doIdxSet ii d 5#3 (some .l) s)

/-- SET 5,(ii+d) (R221). -/
def execSet5AtIdx (ii : Idx) (d : Byte) (s : State) : Result := .next (doIdxSet ii d 5#3 none s)

/-- SET 5,(ii+d),A (R221). -/
def execSet5AtIdxA (ii : Idx) (d : Byte) (s : State) : Result := .next (doIdxSet ii d 5#3 (some .a) s)

/-- SET 6,(ii+d),B (R221). -/
def execSet6AtIdxB (ii : Idx) (d : Byte) (s : State) : Result := .next (doIdxSet ii d 6#3 (some .b) s)

/-- SET 6,(ii+d),C (R221). -/
def execSet6AtIdxC (ii : Idx) (d : Byte) (s : State) : Result := .next (doIdxSet ii d 6#3 (some .c) s)

/-- SET 6,(ii+d),D (R221). -/
def execSet6AtIdxD (ii : Idx) (d : Byte) (s : State) : Result := .next (doIdxSet ii d 6#3 (some .d) s)

/-- SET 6,(ii+d),E (R221). -/
def execSet6AtIdxE (ii : Idx) (d : Byte) (s : State) : Result := .next (doIdxSet ii d 6#3 (some .e) s)

/-- SET 6,(ii+d),H (R221). -/
def execSet6AtIdxH (ii : Idx) (d : Byte) (s : State) : Result := .next (doIdxSet ii d 6#3 (some .h) s)

/-- SET 6,(ii+d),L (R221). -/
def execSet6AtIdxL (ii : Idx) (d : Byte) (s : State) : Result := .next (doIdxSet ii d 6#3 (some .l) s)

/-- SET 6,(ii+d) (R221). -/
def execSet6AtIdx (ii : Idx) (d : Byte) (s : State) : Result := .next (doIdxSet ii d 6#3 none s)

/-- SET 6,(ii+d),A (R221). -/
def execSet6AtIdxA (ii : Idx) (d : Byte) (s : State) : Result := .next (doIdxSet ii d 6#3 (some .a) s)

/-- SET 7,(ii+d),B (R221). -/
def execSet7AtIdxB (ii : Idx) (d : Byte) (s : State) : Result := .next (doIdxSet ii d 7#3 (some .b) s)

/-- SET 7,(ii+d),C (R221). -/
def execSet7AtIdxC (ii : Idx) (d : Byte) (s : State) : Result := .next (doIdxSet ii d 7#3 (some .c) s)

/-- SET 7,(ii+d),D (R221). -/
def execSet7AtIdxD (ii : Idx) (d : Byte) (s : State) : Result := .next (doIdxSet ii d 7#3 (some .d) s)

/-- SET 7,(ii+d),E (R221). -/
def execSet7AtIdxE (ii : Idx) (d : Byte) (s : State) : Result := .next (doIdxSet ii d 7#3 (some .e) s)

/-- SET 7,(ii+d),H (R221). -/
def execSet7AtIdxH (ii : Idx) (d : Byte) (s : State) : Result := .next (doIdxSet ii d 7#3 (some .h) s)

/-- SET 7,(ii+d),L (R221). -/
def execSet7AtIdxL (ii : Idx) (d : Byte) (s : State) : Result := .next (doIdxSet ii d 7#3 (some .l) s)

/-- SET 7,(ii+d) (R221). -/
def execSet7AtIdx (ii : Idx) (d : Byte) (s : State) : Result := .next (doIdxSet ii d 7#3 none s)

/-- SET 7,(ii+d),A (R221). -/
def execSet7AtIdxA (ii : Idx) (d : Byte) (s : State) : Result := .next (doIdxSet ii d 7#3 (some .a) s)

end Sys2Proof.Machine
end

