-- ==== Sys2Proof/Machine/Block.lean ====
section
/-! DEFINITION. The meanings of the block transfer, search and I/O instructions (spec file 42_block.md): one iteration each
(R140). First each operation once, over its direction and whether it repeats, then one meaning per mnemonic. -/

namespace Sys2Proof.Machine

/-- LDI, LDD, LDIR and LDDR (R141 to R144): a repeating iteration also writes MEMPTR. -/
def doBlockLd (d : Dir) (rep : Bool) (s : State) : State :=
  s.readMem s.hl fun t s =>
    let s := s.writeMem s.de t
    let s := ((s.setHl (stepWord d s.hl)).setDe (stepWord d s.de)).setBc (s.bc - 1#16)
    let more := s.bc != 0#16
    let s := s.setF (blockLdFlags t s.main.a s.main.f more)
    if rep && more then (s.setMemptr (s.rewound + 1#16)).repeatBlock fun f => f else s.took 16

/-- CPI, CPD, CPIR and CPDR (R145 to R148). -/
def doBlockCp (d : Dir) (rep : Bool) (s : State) : State :=
  s.readMem s.hl fun t s =>
    let s := (s.setHl (stepWord d s.hl)).setBc (s.bc - 1#16)
    let more := s.bc != 0#16
    let s := s.setF (blockCpFlags t s.main.a s.main.f more)
    if rep && more && s.main.a != t then (s.setMemptr (s.rewound + 1#16)).repeatBlock fun f => f
    else (s.setMemptr (stepWord d s.memptr)).took 16

/-- The repeat test of the block I/O instructions (R151, R158). -/
def State.repeatIo (s : State) (rep : Bool) (t : Byte) : State :=
  if rep && s.main.b != 0#8 then s.repeatBlock (blockIoRepeatFlags s.main.b t) else s.took 16

/-- INI, IND, INIR and INDR (R149 to R152): the port is BC before B is decremented. -/
def doBlockIn (d : Dir) (rep : Bool) (s : State) : State :=
  s.readIo s.bc fun t s =>
    let s := s.setMemptr (stepWord d s.bc)
    let s := s.setB (s.main.b - 1#8)
    let s := s.writeMem s.hl t
    let s := s.setHl (stepWord d s.hl)
    let s := s.setF (blockIoFlags s.main.b t (t.toNat + (stepByte d s.main.c).toNat))
    s.repeatIo rep t

/-- OUTI, OUTD, OTIR and OTDR (R153 to R156): the port is BC after B is decremented. -/
def doBlockOut (d : Dir) (rep : Bool) (s : State) : State :=
  s.readMem s.hl fun t s =>
    let s := s.setB (s.main.b - 1#8)
    let s := s.setMemptr (stepWord d s.bc)
    let s := s.writeIo s.bc t
    let s := s.setHl (stepWord d s.hl)
    let s := s.setF (blockIoFlags s.main.b t (t.toNat + s.main.l.toNat))
    s.repeatIo rep t

/-- LDI (R141). -/
def execLdi (s : State) : Result := .next (doBlockLd .inc false s)

/-- CPI (R145). -/
def execCpi (s : State) : Result := .next (doBlockCp .inc false s)

/-- INI (R149). -/
def execIni (s : State) : Result := .next (doBlockIn .inc false s)

/-- OUTI (R153). -/
def execOuti (s : State) : Result := .next (doBlockOut .inc false s)

/-- LDD (R142). -/
def execLdd (s : State) : Result := .next (doBlockLd .dec false s)

/-- CPD (R146). -/
def execCpd (s : State) : Result := .next (doBlockCp .dec false s)

/-- IND (R150). -/
def execInd (s : State) : Result := .next (doBlockIn .dec false s)

/-- OUTD (R154). -/
def execOutd (s : State) : Result := .next (doBlockOut .dec false s)

/-- LDIR (R143). -/
def execLdir (s : State) : Result := .next (doBlockLd .inc true s)

/-- CPIR (R147). -/
def execCpir (s : State) : Result := .next (doBlockCp .inc true s)

/-- INIR (R151). -/
def execInir (s : State) : Result := .next (doBlockIn .inc true s)

/-- OTIR (R155). -/
def execOtir (s : State) : Result := .next (doBlockOut .inc true s)

/-- LDDR (R144). -/
def execLddr (s : State) : Result := .next (doBlockLd .dec true s)

/-- CPDR (R148). -/
def execCpdr (s : State) : Result := .next (doBlockCp .dec true s)

/-- INDR (R152). -/
def execIndr (s : State) : Result := .next (doBlockIn .dec true s)

/-- OTDR (R156). -/
def execOtdr (s : State) : Result := .next (doBlockOut .dec true s)

end Sys2Proof.Machine
end

