-- ==== Sys2Proof/Machine/Control.lean ====
section
/-! DEFINITION. The meanings of the jumps, calls and returns (spec file 47_control.md). First each operation once, over its
fields, then one meaning per mnemonic. -/

namespace Sys2Proof.Machine

/-- JP nn (R230). -/
def doJp (nn : Word) (s : State) : State := (s.jump nn).took 10

/-- JP cc,nn: MEMPTR takes nn, taken or not (R231). -/
def doJpCc (cc : Cond) (nn : Word) (s : State) : State :=
  if condHolds cc s.main.f then (s.jump nn).took 10 else (s.setMemptr nn).took 10

/-- JR e (R232). -/
def doJr (e : Byte) (s : State) : State := (s.jump (s.relative e)).took 12

/-- JR cc,e (R233). -/
def doJrCc (cc : JrCond) (e : Byte) (s : State) : State :=
  if jrCondHolds cc s.main.f then (s.jump (s.relative e)).took 12 else s.took 7

/-- JP (HL): no memory is read (R234). -/
def doJpHl (s : State) : State := (s.setPc s.hl).took 4

/-- JP (IX) and JP (IY) (R235). -/
def doIdxJp (ii : Idx) (s : State) : State := (s.setPc (s.idx ii)).took 8

/-- DJNZ e: no flag is touched (R236). -/
def doDjnz (e : Byte) (s : State) : State :=
  let t := s.setB (s.main.b - 1#8)
  if t.main.b != 0#8 then (t.jump (t.relative e)).took 13 else t.took 8

/-- CALL nn (R237). -/
def doCall (nn : Word) (s : State) : State := ((s.push16 s.pc).jump nn).took 17

/-- CALL cc,nn: MEMPTR takes nn, taken or not (R238). -/
def doCallCc (cc : Cond) (nn : Word) (s : State) : State :=
  if condHolds cc s.main.f then ((s.push16 s.pc).jump nn).took 17 else (s.setMemptr nn).took 10

/-- RET (R239). -/
def doRet (s : State) : State := s.pop16 fun w s => (s.jump w).took 10

/-- RET cc (R240). -/
def doRetCc (cc : Cond) (s : State) : State :=
  if condHolds cc s.main.f then s.pop16 fun w s => (s.jump w).took 11 else s.took 5

/-- RETI (R241). -/
def doReti (s : State) : State := returnFromInterrupt s

/-- RETN (R242). -/
def doRetn (s : State) : State := returnFromInterrupt s

/-- RST p (R243). -/
def doRst (y : BitVec 3) (s : State) : State := ((s.push16 s.pc).jump (rstTarget y)).took 11

/-- DJNZ e (R236). -/
def execDjnzE (e : Byte) (s : State) : Result := .next (doDjnz e s)

/-- JR e (R232). -/
def execJrE (e : Byte) (s : State) : Result := .next (doJr e s)

/-- JR NZ,e (R233). -/
def execJrNzE (e : Byte) (s : State) : Result := .next (doJrCc .nz e s)

/-- JR Z,e (R233). -/
def execJrZE (e : Byte) (s : State) : Result := .next (doJrCc .z e s)

/-- JR NC,e (R233). -/
def execJrNcE (e : Byte) (s : State) : Result := .next (doJrCc .nc e s)

/-- JR C,e (R233). -/
def execJrCE (e : Byte) (s : State) : Result := .next (doJrCc .c e s)

/-- RET NZ (R240). -/
def execRetNz (s : State) : Result := .next (doRetCc .nz s)

/-- JP NZ,nn (R231). -/
def execJpNzNn (nn : Word) (s : State) : Result := .next (doJpCc .nz nn s)

/-- JP nn (R230). -/
def execJpNn (nn : Word) (s : State) : Result := .next (doJp nn s)

/-- CALL NZ,nn (R238). -/
def execCallNzNn (nn : Word) (s : State) : Result := .next (doCallCc .nz nn s)

/-- RST 00H (R243). -/
def execRst00 (s : State) : Result := .next (doRst 0#3 s)

/-- RET Z (R240). -/
def execRetZ (s : State) : Result := .next (doRetCc .z s)

/-- RET (R239). -/
def execRet (s : State) : Result := .next (doRet s)

/-- JP Z,nn (R231). -/
def execJpZNn (nn : Word) (s : State) : Result := .next (doJpCc .z nn s)

/-- CALL Z,nn (R238). -/
def execCallZNn (nn : Word) (s : State) : Result := .next (doCallCc .z nn s)

/-- CALL nn (R237). -/
def execCallNn (nn : Word) (s : State) : Result := .next (doCall nn s)

/-- RST 08H (R243). -/
def execRst08 (s : State) : Result := .next (doRst 1#3 s)

/-- RET NC (R240). -/
def execRetNc (s : State) : Result := .next (doRetCc .nc s)

/-- JP NC,nn (R231). -/
def execJpNcNn (nn : Word) (s : State) : Result := .next (doJpCc .nc nn s)

/-- CALL NC,nn (R238). -/
def execCallNcNn (nn : Word) (s : State) : Result := .next (doCallCc .nc nn s)

/-- RST 10H (R243). -/
def execRst10 (s : State) : Result := .next (doRst 2#3 s)

/-- RET C (R240). -/
def execRetC (s : State) : Result := .next (doRetCc .c s)

/-- JP C,nn (R231). -/
def execJpCNn (nn : Word) (s : State) : Result := .next (doJpCc .c nn s)

/-- CALL C,nn (R238). -/
def execCallCNn (nn : Word) (s : State) : Result := .next (doCallCc .c nn s)

/-- RST 18H (R243). -/
def execRst18 (s : State) : Result := .next (doRst 3#3 s)

/-- RET PO (R240). -/
def execRetPo (s : State) : Result := .next (doRetCc .po s)

/-- JP PO,nn (R231). -/
def execJpPoNn (nn : Word) (s : State) : Result := .next (doJpCc .po nn s)

/-- CALL PO,nn (R238). -/
def execCallPoNn (nn : Word) (s : State) : Result := .next (doCallCc .po nn s)

/-- RST 20H (R243). -/
def execRst20 (s : State) : Result := .next (doRst 4#3 s)

/-- RET PE (R240). -/
def execRetPe (s : State) : Result := .next (doRetCc .pe s)

/-- JP (HL) (R234). -/
def execJpAtHl (s : State) : Result := .next (doJpHl s)

/-- JP PE,nn (R231). -/
def execJpPeNn (nn : Word) (s : State) : Result := .next (doJpCc .pe nn s)

/-- CALL PE,nn (R238). -/
def execCallPeNn (nn : Word) (s : State) : Result := .next (doCallCc .pe nn s)

/-- RST 28H (R243). -/
def execRst28 (s : State) : Result := .next (doRst 5#3 s)

/-- RET P (R240). -/
def execRetP (s : State) : Result := .next (doRetCc .p s)

/-- JP P,nn (R231). -/
def execJpPNn (nn : Word) (s : State) : Result := .next (doJpCc .p nn s)

/-- CALL P,nn (R238). -/
def execCallPNn (nn : Word) (s : State) : Result := .next (doCallCc .p nn s)

/-- RST 30H (R243). -/
def execRst30 (s : State) : Result := .next (doRst 6#3 s)

/-- RET M (R240). -/
def execRetM (s : State) : Result := .next (doRetCc .m s)

/-- JP M,nn (R231). -/
def execJpMNn (nn : Word) (s : State) : Result := .next (doJpCc .m nn s)

/-- CALL M,nn (R238). -/
def execCallMNn (nn : Word) (s : State) : Result := .next (doCallCc .m nn s)

/-- RST 38H (R243). -/
def execRst38 (s : State) : Result := .next (doRst 7#3 s)

/-- RETN (R242). -/
def execRetn (_y : BitVec 3) (s : State) : Result := .next (doRetn s)

/-- RETI (R241). -/
def execReti (s : State) : Result := .next (doReti s)

/-- JP (ii) (R235). -/
def execJpAtIdx (ii : Idx) (s : State) : Result := .next (doIdxJp ii s)

end Sys2Proof.Machine
end

