-- ==== Sys2Proof/Machine/CpuControl.lean ====
section
/-! DEFINITION. The meanings of NOP, HALT, DI, EI and IM, of the ED NOP* bytes and of a redundant index prefix (spec file
49_cpu_control.md). First each operation once, over its fields, then one meaning per mnemonic. -/

namespace Sys2Proof.Machine

/-- NOP (R260). -/
def doNop (s : State) : State := s.took 4

/-- HALT: PC stays at the address after it (R261). -/
def doHalt (s : State) : State := { s with halted := true }.took 4

/-- DI (R262). -/
def doDi (s : State) : State := { s with iff1 := false, iff2 := false }.took 4

/-- EI: acceptance is put off by one instruction (R263). -/
def doEi (s : State) : State := { s with iff1 := true, iff2 := true, eiDelay := true }.took 4

/-- IM (R264). -/
def doIm (m : IntMode) (s : State) : State := { s with im := m }.took 8

/-- ED NOP* (R265). -/
def doNopStar (s : State) : State := s.took 8

/-- A redundant index prefix: the second one is kept for the next step (R88, R267). -/
def doRedundant (second : Idx) (s : State) : State := { s with pendingPrefix := some second }.took 8

/-- NOP (R260). -/
def execNop (s : State) : Result := .next (doNop s)

/-- HALT (R261). -/
def execHalt (s : State) : Result := .next (doHalt s)

/-- DI (R262). -/
def execDi (s : State) : Result := .next (doDi s)

/-- EI (R263). -/
def execEi (s : State) : Result := .next (doEi s)

/-- NOP* (R265). -/
def execNopStar (_op : Byte) (s : State) : Result := .next (doNopStar s)

/-- IM 0 (R264). -/
def execIm0 (_y : BitVec 3) (s : State) : Result := .next (doIm .im0 s)

/-- IM 1 (R264). -/
def execIm1 (_y : BitVec 3) (s : State) : Result := .next (doIm .im1 s)

/-- IM 2 (R264). -/
def execIm2 (_y : BitVec 3) (s : State) : Result := .next (doIm .im2 s)

/-- A redundant index prefix (R88, R267). -/
def execRedundantPrefix (_first : Idx) (second : Idx) (s : State) : Result := .next (doRedundant second s)

end Sys2Proof.Machine
end

