-- ==== Sys2Proof/Machine/Io.lean ====
section
/-! DEFINITION. The meanings of the single-transfer I/O instructions (spec file 48_io.md). First each operation once, over
its fields, then one meaning per mnemonic. -/

namespace Sys2Proof.Machine

/-- IN A,(n) (R250). -/
def doInAN (n : Byte) (s : State) : State :=
  let p := s.portN n
  s.readIo p fun v s => ((s.setA v).setMemptr (p + 1#16)).took 11

/-- IN r,(C) (R251). -/
def doInReg (r : Reg8) (s : State) : State :=
  let p := s.bc
  s.readIo p fun v s =>
    (((s.setMemptr (p + 1#16)).setReg r v).setF (parityFlags v s.main.f)).took 12

/-- IN F,(C): only the flags receive anything (R252). -/
def doInF (s : State) : State :=
  let p := s.bc
  s.readIo p fun v s => ((s.setMemptr (p + 1#16)).setF (parityFlags v s.main.f)).took 12

/-- OUT (n),A (R253). -/
def doOutNA (n : Byte) (s : State) : State :=
  ((s.writeIo (s.portN n) s.main.a).setMemptr (pack s.main.a (n + 1#8))).took 11

/-- OUT (C),r (R254). -/
def doOutReg (r : Reg8) (s : State) : State :=
  ((s.writeIo s.bc (s.reg r)).setMemptr (s.bc + 1#16)).took 12

/-- OUT (C),0 (R255). -/
def doOutZero (s : State) : State :=
  ((s.writeIo s.bc s.params.outCZeroValue).setMemptr (s.bc + 1#16)).took 12

/-- OUT (n),A (R253). -/
def execOutAtNA (n : Byte) (s : State) : Result := .next (doOutNA n s)

/-- IN A,(n) (R250). -/
def execInAAtN (n : Byte) (s : State) : Result := .next (doInAN n s)

/-- IN B,(C) (R251). -/
def execInBAtC (s : State) : Result := .next (doInReg .b s)

/-- OUT (C),B (R254). -/
def execOutAtCB (s : State) : Result := .next (doOutReg .b s)

/-- IN C,(C) (R251). -/
def execInCAtC (s : State) : Result := .next (doInReg .c s)

/-- OUT (C),C (R254). -/
def execOutAtCC (s : State) : Result := .next (doOutReg .c s)

/-- IN D,(C) (R251). -/
def execInDAtC (s : State) : Result := .next (doInReg .d s)

/-- OUT (C),D (R254). -/
def execOutAtCD (s : State) : Result := .next (doOutReg .d s)

/-- IN E,(C) (R251). -/
def execInEAtC (s : State) : Result := .next (doInReg .e s)

/-- OUT (C),E (R254). -/
def execOutAtCE (s : State) : Result := .next (doOutReg .e s)

/-- IN H,(C) (R251). -/
def execInHAtC (s : State) : Result := .next (doInReg .h s)

/-- OUT (C),H (R254). -/
def execOutAtCH (s : State) : Result := .next (doOutReg .h s)

/-- IN L,(C) (R251). -/
def execInLAtC (s : State) : Result := .next (doInReg .l s)

/-- OUT (C),L (R254). -/
def execOutAtCL (s : State) : Result := .next (doOutReg .l s)

/-- IN F,(C) (R252). -/
def execInFAtC (s : State) : Result := .next (doInF s)

/-- OUT (C),0 (R255). -/
def execOutAtC0 (s : State) : Result := .next (doOutZero s)

/-- IN A,(C) (R251). -/
def execInAAtC (s : State) : Result := .next (doInReg .a s)

/-- OUT (C),A (R254). -/
def execOutAtCA (s : State) : Result := .next (doOutReg .a s)

end Sys2Proof.Machine
end

