-- ==== Sys2Proof/Machine/Load16.lean ====
section
/-! DEFINITION. The meanings of the 16-bit loads, PUSH, POP and the exchanges (spec file 41_load16_exchange.md). First each
operation once, over its fields, then one meaning per mnemonic. -/

namespace Sys2Proof.Machine

/-- `rp[p] <- nn` (R120). -/
def doLdPairN (p : Pair) (nn : Word) (s : State) : State := (s.setPair p nn).took 10

/-- `ii <- nn` (R121). -/
def doIdxLdN (ii : Idx) (nn : Word) (s : State) : State := (s.setIdx ii nn).took 14

/-- `HL <- MemRead(nn, 2); MEMPTR <- nn + 1` (R122). -/
def doLdHl (nn : Word) (s : State) : State :=
  s.readMem16 nn fun w s => ((s.setHl w).setMemptr (nn + 1#16)).took 16

/-- `rp[p] <- MemRead(nn, 2); MEMPTR <- nn + 1` (R123). -/
def doLdPair (p : Pair) (nn : Word) (s : State) : State :=
  s.readMem16 nn fun w s => ((s.setPair p w).setMemptr (nn + 1#16)).took 20

/-- `ii <- MemRead(nn, 2); MEMPTR <- nn + 1` (R124). -/
def doIdxLd (ii : Idx) (nn : Word) (s : State) : State :=
  s.readMem16 nn fun w s => ((s.setIdx ii w).setMemptr (nn + 1#16)).took 20

/-- `MemWrite(nn, 2, HL); MEMPTR <- nn + 1` (R125). -/
def doStHl (nn : Word) (s : State) : State :=
  ((s.writeMem16 nn s.hl).setMemptr (nn + 1#16)).took 16

/-- `MemWrite(nn, 2, rp[p]); MEMPTR <- nn + 1` (R126). -/
def doStPair (nn : Word) (p : Pair) (s : State) : State :=
  ((s.writeMem16 nn (s.pair p)).setMemptr (nn + 1#16)).took 20

/-- `MemWrite(nn, 2, ii); MEMPTR <- nn + 1` (R127). -/
def doIdxSt (ii : Idx) (nn : Word) (s : State) : State :=
  ((s.writeMem16 nn (s.idx ii)).setMemptr (nn + 1#16)).took 20

/-- `SP <- HL` (R128). -/
def doLdSpHl (s : State) : State := (s.setSp s.hl).took 6

/-- `SP <- ii` (R128). -/
def doIdxLdSp (ii : Idx) (s : State) : State := (s.setSp (s.idx ii)).took 10

/-- `Push16(qq)` (R129). -/
def doPush (q : StackPair) (s : State) : State := (s.push16 (s.stackPair q)).took 11

/-- `Push16(ii)` (R129). -/
def doIdxPush (ii : Idx) (s : State) : State := (s.push16 (s.idx ii)).took 15

/-- `(A, F, A', F') <- (A', F', A, F)` (R130). -/
def doExAfAf (s : State) : State :=
  { s with main := { s.main with a := s.alt.a, f := s.alt.f },
           alt := { s.alt with a := s.main.a, f := s.main.f } }.took 4

/-- BC, DE and HL exchanged with their shadows; AF is not (R131). -/
def doExx (s : State) : State :=
  { s with main := { s.alt with a := s.main.a, f := s.main.f },
           alt := { s.main with a := s.alt.a, f := s.alt.f } }.took 4

/-- `qq <- Pop16()` (R132). -/
def doPop (q : StackPair) (s : State) : State := s.pop16 fun w s => (s.setStackPair q w).took 10

/-- `ii <- Pop16()` (R132). -/
def doIdxPop (ii : Idx) (s : State) : State := s.pop16 fun w s => (s.setIdx ii w).took 14

/-- `(DE, HL) <- (HL, DE)` (R133). -/
def doExDeHl (s : State) : State :=
  { s with main := { s.main with d := s.main.h, e := s.main.l, h := s.main.d, l := s.main.e } }.took 4

/-- The top of the stack replaced by w, handing on what it held: reads at SP and SP + 1, then writes at SP + 1 and
SP (R134). -/
def State.exchangeTop (s : State) (w : Word) (k : Word → State → State) : State :=
  s.readMem s.sp fun lo s => s.readMem (s.sp + 1#16) fun hi s =>
    k (pack hi lo) ((s.writeMem (s.sp + 1#16) (hiByte w)).writeMem s.sp (loByte w))

/-- `EX (SP),HL` (R134). -/
def doExSpHl (s : State) : State :=
  s.exchangeTop s.hl fun w s => ((s.setHl w).setMemptr w).took 19

/-- `EX (SP),ii` (R134). -/
def doIdxExSp (ii : Idx) (s : State) : State :=
  s.exchangeTop (s.idx ii) fun w s => ((s.setIdx ii w).setMemptr w).took 23

/-- LD BC,nn (R120). -/
def execLdBcNn (nn : Word) (s : State) : Result := .next (doLdPairN .bc nn s)

/-- EX AF,AF' (R130). -/
def execExAfAf (s : State) : Result := .next (doExAfAf s)

/-- LD DE,nn (R120). -/
def execLdDeNn (nn : Word) (s : State) : Result := .next (doLdPairN .de nn s)

/-- LD HL,nn (R120). -/
def execLdHlNn (nn : Word) (s : State) : Result := .next (doLdPairN .hl nn s)

/-- LD (nn),HL (R125). -/
def execLdAtNnHl (nn : Word) (s : State) : Result := .next (doStHl nn s)

/-- LD HL,(nn) (R122). -/
def execLdHlAtNn (nn : Word) (s : State) : Result := .next (doLdHl nn s)

/-- LD SP,nn (R120). -/
def execLdSpNn (nn : Word) (s : State) : Result := .next (doLdPairN .sp nn s)

/-- POP BC (R132). -/
def execPopBc (s : State) : Result := .next (doPop .bc s)

/-- PUSH BC (R129). -/
def execPushBc (s : State) : Result := .next (doPush .bc s)

/-- POP DE (R132). -/
def execPopDe (s : State) : Result := .next (doPop .de s)

/-- PUSH DE (R129). -/
def execPushDe (s : State) : Result := .next (doPush .de s)

/-- EXX (R131). -/
def execExx (s : State) : Result := .next (doExx s)

/-- POP HL (R132). -/
def execPopHl (s : State) : Result := .next (doPop .hl s)

/-- EX (SP),HL (R134). -/
def execExAtSpHl (s : State) : Result := .next (doExSpHl s)

/-- PUSH HL (R129). -/
def execPushHl (s : State) : Result := .next (doPush .hl s)

/-- EX DE,HL (R133). -/
def execExDeHl (s : State) : Result := .next (doExDeHl s)

/-- POP AF (R132). -/
def execPopAf (s : State) : Result := .next (doPop .af s)

/-- PUSH AF (R129). -/
def execPushAf (s : State) : Result := .next (doPush .af s)

/-- LD SP,HL (R128). -/
def execLdSpHl (s : State) : Result := .next (doLdSpHl s)

/-- LD (nn),BC (R126). -/
def execLdAtNnBc (nn : Word) (s : State) : Result := .next (doStPair nn .bc s)

/-- LD BC,(nn) (R123). -/
def execLdBcAtNn (nn : Word) (s : State) : Result := .next (doLdPair .bc nn s)

/-- LD (nn),DE (R126). -/
def execLdAtNnDe (nn : Word) (s : State) : Result := .next (doStPair nn .de s)

/-- LD DE,(nn) (R123). -/
def execLdDeAtNn (nn : Word) (s : State) : Result := .next (doLdPair .de nn s)

/-- LD (nn),HL, the ED form (R126). -/
def execLdAtNnHlEd (nn : Word) (s : State) : Result := .next (doStPair nn .hl s)

/-- LD HL,(nn), the ED form (R123). -/
def execLdHlAtNnEd (nn : Word) (s : State) : Result := .next (doLdPair .hl nn s)

/-- LD (nn),SP (R126). -/
def execLdAtNnSp (nn : Word) (s : State) : Result := .next (doStPair nn .sp s)

/-- LD SP,(nn) (R123). -/
def execLdSpAtNn (nn : Word) (s : State) : Result := .next (doLdPair .sp nn s)

/-- LD ii,nn (R121). -/
def execLdIdxNn (ii : Idx) (nn : Word) (s : State) : Result := .next (doIdxLdN ii nn s)

/-- LD (nn),ii (R127). -/
def execLdAtNnIdx (ii : Idx) (nn : Word) (s : State) : Result := .next (doIdxSt ii nn s)

/-- LD ii,(nn) (R124). -/
def execLdIdxAtNn (ii : Idx) (nn : Word) (s : State) : Result := .next (doIdxLd ii nn s)

/-- POP ii (R132). -/
def execPopIdx (ii : Idx) (s : State) : Result := .next (doIdxPop ii s)

/-- EX (SP),ii (R134). -/
def execExAtSpIdx (ii : Idx) (s : State) : Result := .next (doIdxExSp ii s)

/-- PUSH ii (R129). -/
def execPushIdx (ii : Idx) (s : State) : Result := .next (doIdxPush ii s)

/-- LD SP,ii (R128). -/
def execLdSpIdx (ii : Idx) (s : State) : Result := .next (doIdxLdSp ii s)

end Sys2Proof.Machine
end

