-- ==== Sys2Proof/Machine/Load8.lean ====
section
/-! DEFINITION. The meanings of the 8-bit loads (spec file 40_load8.md). First each operation once, over its fields, then
one meaning per mnemonic. -/

namespace Sys2Proof.Machine

/-- `r[y] <- r[z]` (R100). -/
def doLdRegReg (dst src : Reg8) (s : State) : State := (s.setReg dst (s.reg src)).took 4

/-- `r[y] <- n` (R101). -/
def doLdRegN (r : Reg8) (n : Byte) (s : State) : State := (s.setReg r n).took 7

/-- `r[y] <- MemRead(HL, 1)` (R102). -/
def doLdRegMem (r : Reg8) (s : State) : State := s.readMem s.hl fun v s => (s.setReg r v).took 7

/-- `MemWrite(HL, 1, r[z])` (R103). -/
def doLdMemReg (r : Reg8) (s : State) : State := (s.writeMem s.hl (s.reg r)).took 7

/-- `MemWrite(HL, 1, n)` (R104). -/
def doLdMemN (n : Byte) (s : State) : State := (s.writeMem s.hl n).took 10

/-- `r[y] <- MemRead(EA, 1)`, the real H and L (R105). -/
def doIdxLdRegMem (ii : Idx) (r : Reg8) (d : Byte) (s : State) : State :=
  s.indexed ii d fun ea s => s.readMem ea fun v s => (s.setReg r v).took 19

/-- `MemWrite(EA, 1, r[z])`, the real H and L (R106). -/
def doIdxLdMemReg (ii : Idx) (d : Byte) (r : Reg8) (s : State) : State :=
  s.indexed ii d fun ea s => (s.writeMem ea (s.reg r)).took 19

/-- `MemWrite(EA, 1, n)` (R107). -/
def doIdxLdMemN (ii : Idx) (d n : Byte) (s : State) : State :=
  s.indexed ii d fun ea s => (s.writeMem ea n).took 19

/-- `A <- I` with the flags (R108). -/
def doLdAI (s : State) : State := ((s.setA s.i).setF (iffFlags s.i s.main.f s.iff2)).took 9

/-- `A <- R` with the flags: R after this instruction's own increments (R109). -/
def doLdAR (s : State) : State := ((s.setA s.r).setF (iffFlags s.r s.main.f s.iff2)).took 9

/-- `I <- A` (R110). -/
def doLdIA (s : State) : State := { s with i := s.main.a }.took 9

/-- `R <- A`, all eight bits (R111). -/
def doLdRA (s : State) : State := { s with r := s.main.a }.took 9

/-- `A <- MemRead(rr, 1); MEMPTR <- rr + 1` (R112). -/
def doLdA (rr : AddrPair) (s : State) : State :=
  let a := s.addrPair rr
  s.readMem a fun v s => ((s.setA v).setMemptr (a + 1#16)).took 7

/-- `MemWrite(rr, 1, A); MEMPTR <- {A, (rr[7:0] + 1)[7:0]}` (R113). -/
def doStA (rr : AddrPair) (s : State) : State :=
  let a := s.addrPair rr
  ((s.writeMem a s.main.a).setMemptr (pack s.main.a (lowPlusOne a))).took 7

/-- `A <- MemRead(nn, 1); MEMPTR <- nn + 1` (R114). -/
def doLdAAbs (nn : Word) (s : State) : State :=
  s.readMem nn fun v s => ((s.setA v).setMemptr (nn + 1#16)).took 13

/-- `MemWrite(nn, 1, A); MEMPTR <- {A, (nn[7:0] + 1)[7:0]}` (R115). -/
def doStAAbs (nn : Word) (s : State) : State :=
  ((s.writeMem nn s.main.a).setMemptr (pack s.main.a (lowPlusOne nn))).took 13

/-- `r'[y] <- r'[z]` with H and L the index halves (R116). -/
def doIdxLdRegReg (ii : Idx) (dst src : Reg8) (s : State) : State :=
  (s.setIdxReg ii dst (s.idxReg ii src)).took 8

/-- `IXH <- n` or another half (R117). -/
def doIdxLdHalfN (ii : Idx) (x : Half) (n : Byte) (s : State) : State := (s.setHalf ii x n).took 11

/-- LD (BC),A (R113). -/
def execLdAtBcA (s : State) : Result := .next (doStA .bc s)

/-- LD B,n (R101). -/
def execLdBN (n : Byte) (s : State) : Result := .next (doLdRegN .b n s)

/-- LD A,(BC) (R112). -/
def execLdAAtBc (s : State) : Result := .next (doLdA .bc s)

/-- LD C,n (R101). -/
def execLdCN (n : Byte) (s : State) : Result := .next (doLdRegN .c n s)

/-- LD (DE),A (R113). -/
def execLdAtDeA (s : State) : Result := .next (doStA .de s)

/-- LD D,n (R101). -/
def execLdDN (n : Byte) (s : State) : Result := .next (doLdRegN .d n s)

/-- LD A,(DE) (R112). -/
def execLdAAtDe (s : State) : Result := .next (doLdA .de s)

/-- LD E,n (R101). -/
def execLdEN (n : Byte) (s : State) : Result := .next (doLdRegN .e n s)

/-- LD H,n (R101). -/
def execLdHN (n : Byte) (s : State) : Result := .next (doLdRegN .h n s)

/-- LD L,n (R101). -/
def execLdLN (n : Byte) (s : State) : Result := .next (doLdRegN .l n s)

/-- LD (nn),A (R115). -/
def execLdAtNnA (nn : Word) (s : State) : Result := .next (doStAAbs nn s)

/-- LD (HL),n (R104). -/
def execLdAtHlN (n : Byte) (s : State) : Result := .next (doLdMemN n s)

/-- LD A,(nn) (R114). -/
def execLdAAtNn (nn : Word) (s : State) : Result := .next (doLdAAbs nn s)

/-- LD A,n (R101). -/
def execLdAN (n : Byte) (s : State) : Result := .next (doLdRegN .a n s)

/-- LD B,B (R100). -/
def execLdBB (s : State) : Result := .next (doLdRegReg .b .b s)

/-- LD B,C (R100). -/
def execLdBC (s : State) : Result := .next (doLdRegReg .b .c s)

/-- LD B,D (R100). -/
def execLdBD (s : State) : Result := .next (doLdRegReg .b .d s)

/-- LD B,E (R100). -/
def execLdBE (s : State) : Result := .next (doLdRegReg .b .e s)

/-- LD B,H (R100). -/
def execLdBH (s : State) : Result := .next (doLdRegReg .b .h s)

/-- LD B,L (R100). -/
def execLdBL (s : State) : Result := .next (doLdRegReg .b .l s)

/-- LD B,(HL) (R102). -/
def execLdBAtHl (s : State) : Result := .next (doLdRegMem .b s)

/-- LD B,A (R100). -/
def execLdBA (s : State) : Result := .next (doLdRegReg .b .a s)

/-- LD C,B (R100). -/
def execLdCB (s : State) : Result := .next (doLdRegReg .c .b s)

/-- LD C,C (R100). -/
def execLdCC (s : State) : Result := .next (doLdRegReg .c .c s)

/-- LD C,D (R100). -/
def execLdCD (s : State) : Result := .next (doLdRegReg .c .d s)

/-- LD C,E (R100). -/
def execLdCE (s : State) : Result := .next (doLdRegReg .c .e s)

/-- LD C,H (R100). -/
def execLdCH (s : State) : Result := .next (doLdRegReg .c .h s)

/-- LD C,L (R100). -/
def execLdCL (s : State) : Result := .next (doLdRegReg .c .l s)

/-- LD C,(HL) (R102). -/
def execLdCAtHl (s : State) : Result := .next (doLdRegMem .c s)

/-- LD C,A (R100). -/
def execLdCA (s : State) : Result := .next (doLdRegReg .c .a s)

/-- LD D,B (R100). -/
def execLdDB (s : State) : Result := .next (doLdRegReg .d .b s)

/-- LD D,C (R100). -/
def execLdDC (s : State) : Result := .next (doLdRegReg .d .c s)

/-- LD D,D (R100). -/
def execLdDD (s : State) : Result := .next (doLdRegReg .d .d s)

/-- LD D,E (R100). -/
def execLdDE (s : State) : Result := .next (doLdRegReg .d .e s)

/-- LD D,H (R100). -/
def execLdDH (s : State) : Result := .next (doLdRegReg .d .h s)

/-- LD D,L (R100). -/
def execLdDL (s : State) : Result := .next (doLdRegReg .d .l s)

/-- LD D,(HL) (R102). -/
def execLdDAtHl (s : State) : Result := .next (doLdRegMem .d s)

/-- LD D,A (R100). -/
def execLdDA (s : State) : Result := .next (doLdRegReg .d .a s)

/-- LD E,B (R100). -/
def execLdEB (s : State) : Result := .next (doLdRegReg .e .b s)

/-- LD E,C (R100). -/
def execLdEC (s : State) : Result := .next (doLdRegReg .e .c s)

/-- LD E,D (R100). -/
def execLdED (s : State) : Result := .next (doLdRegReg .e .d s)

/-- LD E,E (R100). -/
def execLdEE (s : State) : Result := .next (doLdRegReg .e .e s)

/-- LD E,H (R100). -/
def execLdEH (s : State) : Result := .next (doLdRegReg .e .h s)

/-- LD E,L (R100). -/
def execLdEL (s : State) : Result := .next (doLdRegReg .e .l s)

/-- LD E,(HL) (R102). -/
def execLdEAtHl (s : State) : Result := .next (doLdRegMem .e s)

/-- LD E,A (R100). -/
def execLdEA (s : State) : Result := .next (doLdRegReg .e .a s)

/-- LD H,B (R100). -/
def execLdHB (s : State) : Result := .next (doLdRegReg .h .b s)

/-- LD H,C (R100). -/
def execLdHC (s : State) : Result := .next (doLdRegReg .h .c s)

/-- LD H,D (R100). -/
def execLdHD (s : State) : Result := .next (doLdRegReg .h .d s)

/-- LD H,E (R100). -/
def execLdHE (s : State) : Result := .next (doLdRegReg .h .e s)

/-- LD H,H (R100). -/
def execLdHH (s : State) : Result := .next (doLdRegReg .h .h s)

/-- LD H,L (R100). -/
def execLdHL (s : State) : Result := .next (doLdRegReg .h .l s)

/-- LD H,(HL) (R102). -/
def execLdHAtHl (s : State) : Result := .next (doLdRegMem .h s)

/-- LD H,A (R100). -/
def execLdHA (s : State) : Result := .next (doLdRegReg .h .a s)

/-- LD L,B (R100). -/
def execLdLB (s : State) : Result := .next (doLdRegReg .l .b s)

/-- LD L,C (R100). -/
def execLdLC (s : State) : Result := .next (doLdRegReg .l .c s)

/-- LD L,D (R100). -/
def execLdLD (s : State) : Result := .next (doLdRegReg .l .d s)

/-- LD L,E (R100). -/
def execLdLE (s : State) : Result := .next (doLdRegReg .l .e s)

/-- LD L,H (R100). -/
def execLdLH (s : State) : Result := .next (doLdRegReg .l .h s)

/-- LD L,L (R100). -/
def execLdLL (s : State) : Result := .next (doLdRegReg .l .l s)

/-- LD L,(HL) (R102). -/
def execLdLAtHl (s : State) : Result := .next (doLdRegMem .l s)

/-- LD L,A (R100). -/
def execLdLA (s : State) : Result := .next (doLdRegReg .l .a s)

/-- LD (HL),B (R103). -/
def execLdAtHlB (s : State) : Result := .next (doLdMemReg .b s)

/-- LD (HL),C (R103). -/
def execLdAtHlC (s : State) : Result := .next (doLdMemReg .c s)

/-- LD (HL),D (R103). -/
def execLdAtHlD (s : State) : Result := .next (doLdMemReg .d s)

/-- LD (HL),E (R103). -/
def execLdAtHlE (s : State) : Result := .next (doLdMemReg .e s)

/-- LD (HL),H (R103). -/
def execLdAtHlH (s : State) : Result := .next (doLdMemReg .h s)

/-- LD (HL),L (R103). -/
def execLdAtHlL (s : State) : Result := .next (doLdMemReg .l s)

/-- LD (HL),A (R103). -/
def execLdAtHlA (s : State) : Result := .next (doLdMemReg .a s)

/-- LD A,B (R100). -/
def execLdAB (s : State) : Result := .next (doLdRegReg .a .b s)

/-- LD A,C (R100). -/
def execLdAC (s : State) : Result := .next (doLdRegReg .a .c s)

/-- LD A,D (R100). -/
def execLdAD (s : State) : Result := .next (doLdRegReg .a .d s)

/-- LD A,E (R100). -/
def execLdAE (s : State) : Result := .next (doLdRegReg .a .e s)

/-- LD A,H (R100). -/
def execLdAH (s : State) : Result := .next (doLdRegReg .a .h s)

/-- LD A,L (R100). -/
def execLdAL (s : State) : Result := .next (doLdRegReg .a .l s)

/-- LD A,(HL) (R102). -/
def execLdAAtHl (s : State) : Result := .next (doLdRegMem .a s)

/-- LD A,A (R100). -/
def execLdAA (s : State) : Result := .next (doLdRegReg .a .a s)

/-- LD I,A (R110). -/
def execLdIA (s : State) : Result := .next (doLdIA s)

/-- LD R,A (R111). -/
def execLdRA (s : State) : Result := .next (doLdRA s)

/-- LD A,I (R108). -/
def execLdAI (s : State) : Result := .next (doLdAI s)

/-- LD A,R (R109). -/
def execLdAR (s : State) : Result := .next (doLdAR s)

/-- LD iiH,n (R117). -/
def execLdIdxHN (ii : Idx) (n : Byte) (s : State) : Result := .next (doIdxLdHalfN ii .high n s)

/-- LD iiL,n (R117). -/
def execLdIdxLN (ii : Idx) (n : Byte) (s : State) : Result := .next (doIdxLdHalfN ii .low n s)

/-- LD (ii+d),n (R107). -/
def execLdAtIdxN (ii : Idx) (d : Byte) (n : Byte) (s : State) : Result := .next (doIdxLdMemN ii d n s)

/-- LD B,iiH (R116). -/
def execLdBIdxH (ii : Idx) (s : State) : Result := .next (doIdxLdRegReg ii .b .h s)

/-- LD B,iiL (R116). -/
def execLdBIdxL (ii : Idx) (s : State) : Result := .next (doIdxLdRegReg ii .b .l s)

/-- LD B,(ii+d) (R105). -/
def execLdBAtIdx (ii : Idx) (d : Byte) (s : State) : Result := .next (doIdxLdRegMem ii .b d s)

/-- LD C,iiH (R116). -/
def execLdCIdxH (ii : Idx) (s : State) : Result := .next (doIdxLdRegReg ii .c .h s)

/-- LD C,iiL (R116). -/
def execLdCIdxL (ii : Idx) (s : State) : Result := .next (doIdxLdRegReg ii .c .l s)

/-- LD C,(ii+d) (R105). -/
def execLdCAtIdx (ii : Idx) (d : Byte) (s : State) : Result := .next (doIdxLdRegMem ii .c d s)

/-- LD D,iiH (R116). -/
def execLdDIdxH (ii : Idx) (s : State) : Result := .next (doIdxLdRegReg ii .d .h s)

/-- LD D,iiL (R116). -/
def execLdDIdxL (ii : Idx) (s : State) : Result := .next (doIdxLdRegReg ii .d .l s)

/-- LD D,(ii+d) (R105). -/
def execLdDAtIdx (ii : Idx) (d : Byte) (s : State) : Result := .next (doIdxLdRegMem ii .d d s)

/-- LD E,iiH (R116). -/
def execLdEIdxH (ii : Idx) (s : State) : Result := .next (doIdxLdRegReg ii .e .h s)

/-- LD E,iiL (R116). -/
def execLdEIdxL (ii : Idx) (s : State) : Result := .next (doIdxLdRegReg ii .e .l s)

/-- LD E,(ii+d) (R105). -/
def execLdEAtIdx (ii : Idx) (d : Byte) (s : State) : Result := .next (doIdxLdRegMem ii .e d s)

/-- LD iiH,B (R116). -/
def execLdIdxHB (ii : Idx) (s : State) : Result := .next (doIdxLdRegReg ii .h .b s)

/-- LD iiH,C (R116). -/
def execLdIdxHC (ii : Idx) (s : State) : Result := .next (doIdxLdRegReg ii .h .c s)

/-- LD iiH,D (R116). -/
def execLdIdxHD (ii : Idx) (s : State) : Result := .next (doIdxLdRegReg ii .h .d s)

/-- LD iiH,E (R116). -/
def execLdIdxHE (ii : Idx) (s : State) : Result := .next (doIdxLdRegReg ii .h .e s)

/-- LD iiH,iiH (R116). -/
def execLdIdxHIdxH (ii : Idx) (s : State) : Result := .next (doIdxLdRegReg ii .h .h s)

/-- LD iiH,iiL (R116). -/
def execLdIdxHIdxL (ii : Idx) (s : State) : Result := .next (doIdxLdRegReg ii .h .l s)

/-- LD H,(ii+d) (R105). -/
def execLdHAtIdx (ii : Idx) (d : Byte) (s : State) : Result := .next (doIdxLdRegMem ii .h d s)

/-- LD iiH,A (R116). -/
def execLdIdxHA (ii : Idx) (s : State) : Result := .next (doIdxLdRegReg ii .h .a s)

/-- LD iiL,B (R116). -/
def execLdIdxLB (ii : Idx) (s : State) : Result := .next (doIdxLdRegReg ii .l .b s)

/-- LD iiL,C (R116). -/
def execLdIdxLC (ii : Idx) (s : State) : Result := .next (doIdxLdRegReg ii .l .c s)

/-- LD iiL,D (R116). -/
def execLdIdxLD (ii : Idx) (s : State) : Result := .next (doIdxLdRegReg ii .l .d s)

/-- LD iiL,E (R116). -/
def execLdIdxLE (ii : Idx) (s : State) : Result := .next (doIdxLdRegReg ii .l .e s)

/-- LD iiL,iiH (R116). -/
def execLdIdxLIdxH (ii : Idx) (s : State) : Result := .next (doIdxLdRegReg ii .l .h s)

/-- LD iiL,iiL (R116). -/
def execLdIdxLIdxL (ii : Idx) (s : State) : Result := .next (doIdxLdRegReg ii .l .l s)

/-- LD L,(ii+d) (R105). -/
def execLdLAtIdx (ii : Idx) (d : Byte) (s : State) : Result := .next (doIdxLdRegMem ii .l d s)

/-- LD iiL,A (R116). -/
def execLdIdxLA (ii : Idx) (s : State) : Result := .next (doIdxLdRegReg ii .l .a s)

/-- LD (ii+d),B (R106). -/
def execLdAtIdxB (ii : Idx) (d : Byte) (s : State) : Result := .next (doIdxLdMemReg ii d .b s)

/-- LD (ii+d),C (R106). -/
def execLdAtIdxC (ii : Idx) (d : Byte) (s : State) : Result := .next (doIdxLdMemReg ii d .c s)

/-- LD (ii+d),D (R106). -/
def execLdAtIdxD (ii : Idx) (d : Byte) (s : State) : Result := .next (doIdxLdMemReg ii d .d s)

/-- LD (ii+d),E (R106). -/
def execLdAtIdxE (ii : Idx) (d : Byte) (s : State) : Result := .next (doIdxLdMemReg ii d .e s)

/-- LD (ii+d),H (R106). -/
def execLdAtIdxH (ii : Idx) (d : Byte) (s : State) : Result := .next (doIdxLdMemReg ii d .h s)

/-- LD (ii+d),L (R106). -/
def execLdAtIdxL (ii : Idx) (d : Byte) (s : State) : Result := .next (doIdxLdMemReg ii d .l s)

/-- LD (ii+d),A (R106). -/
def execLdAtIdxA (ii : Idx) (d : Byte) (s : State) : Result := .next (doIdxLdMemReg ii d .a s)

/-- LD A,iiH (R116). -/
def execLdAIdxH (ii : Idx) (s : State) : Result := .next (doIdxLdRegReg ii .a .h s)

/-- LD A,iiL (R116). -/
def execLdAIdxL (ii : Idx) (s : State) : Result := .next (doIdxLdRegReg ii .a .l s)

/-- LD A,(ii+d) (R105). -/
def execLdAAtIdx (ii : Idx) (d : Byte) (s : State) : Result := .next (doIdxLdRegMem ii .a d s)

end Sys2Proof.Machine
end

