-- ==== Sys2Proof/Machine/Rotate.lean ====
section
/-! DEFINITION. The meanings of the rotates and shifts (spec file 45_rotate_shift.md). First each operation once, over its
fields, then one meaning per mnemonic. -/

namespace Sys2Proof.Machine

/-- The accumulator rotates: S, Z and PV stay (R195 to R198). -/
def State.rotateA (s : State) (k : Rot) : State :=
  let r := rotate k s.main.a (flagC s.main.f)
  ((s.setA r.1).setF (accRotateFlags r.1 s.main.f r.2)).took 4

/-- RLCA (R195). -/
def doRlca (s : State) : State := s.rotateA .rlc

/-- RLA (R196). -/
def doRla (s : State) : State := s.rotateA .rl

/-- RRCA (R197). -/
def doRrca (s : State) : State := s.rotateA .rrc

/-- RRA (R198). -/
def doRra (s : State) : State := s.rotateA .rr

/-- The result byte of a rotate or shift (R199). -/
def rotated (k : Rot) (f v : Byte) : Byte := (rotate k v (flagC f)).1

/-- The flags a rotate or shift leaves (R199). -/
def rotatedF (k : Rot) (f v : Byte) : Byte := rotateFlags (rotate k v (flagC f)).1 (rotate k v (flagC f)).2

/-- A CB rotate or shift of a register (R199). -/
def doRotReg (k : Rot) (r : Reg8) (s : State) : State :=
  ((s.setReg r (rotated k s.main.f (s.reg r))).setF (rotatedF k s.main.f (s.reg r))).took 8

/-- Of (HL) (R199). -/
def doRotMem (k : Rot) (s : State) : State :=
  (s.modifyF s.hl (rotated k s.main.f) (rotatedF k s.main.f)).took 15

/-- Of (ii+d), with the register copy where there is one (R199, R208). -/
def doIdxRot (ii : Idx) (d : Byte) (k : Rot) (copy : Option Reg8) (s : State) : State :=
  s.indexed ii d fun ea s =>
    ((s.modifyF ea (rotated k s.main.f) (rotatedF k s.main.f)).copyTo copy
      (rotated k s.main.f (s.peek ea))).took 23

/-- RLD (R209). -/
def doRld (s : State) : State :=
  s.readMem s.hl fun t s =>
    let a := hi4 s.main.a ++ hi4 t
    ((((s.writeMem s.hl (lo4 t ++ lo4 s.main.a)).setA a).setMemptr (s.hl + 1#16)).setF
      (parityFlags a s.main.f)).took 18

/-- RRD (R210). -/
def doRrd (s : State) : State :=
  s.readMem s.hl fun t s =>
    let a := hi4 s.main.a ++ lo4 t
    ((((s.writeMem s.hl (lo4 s.main.a ++ hi4 t)).setA a).setMemptr (s.hl + 1#16)).setF
      (parityFlags a s.main.f)).took 18

/-- RLCA (R195). -/
def execRlca (s : State) : Result := .next (doRlca s)

/-- RRCA (R197). -/
def execRrca (s : State) : Result := .next (doRrca s)

/-- RLA (R196). -/
def execRla (s : State) : Result := .next (doRla s)

/-- RRA (R198). -/
def execRra (s : State) : Result := .next (doRra s)

/-- RLC B (R200). -/
def execRlcB (s : State) : Result := .next (doRotReg .rlc .b s)

/-- RLC C (R200). -/
def execRlcC (s : State) : Result := .next (doRotReg .rlc .c s)

/-- RLC D (R200). -/
def execRlcD (s : State) : Result := .next (doRotReg .rlc .d s)

/-- RLC E (R200). -/
def execRlcE (s : State) : Result := .next (doRotReg .rlc .e s)

/-- RLC H (R200). -/
def execRlcH (s : State) : Result := .next (doRotReg .rlc .h s)

/-- RLC L (R200). -/
def execRlcL (s : State) : Result := .next (doRotReg .rlc .l s)

/-- RLC (HL) (R200). -/
def execRlcAtHl (s : State) : Result := .next (doRotMem .rlc s)

/-- RLC A (R200). -/
def execRlcA (s : State) : Result := .next (doRotReg .rlc .a s)

/-- RRC B (R202). -/
def execRrcB (s : State) : Result := .next (doRotReg .rrc .b s)

/-- RRC C (R202). -/
def execRrcC (s : State) : Result := .next (doRotReg .rrc .c s)

/-- RRC D (R202). -/
def execRrcD (s : State) : Result := .next (doRotReg .rrc .d s)

/-- RRC E (R202). -/
def execRrcE (s : State) : Result := .next (doRotReg .rrc .e s)

/-- RRC H (R202). -/
def execRrcH (s : State) : Result := .next (doRotReg .rrc .h s)

/-- RRC L (R202). -/
def execRrcL (s : State) : Result := .next (doRotReg .rrc .l s)

/-- RRC (HL) (R202). -/
def execRrcAtHl (s : State) : Result := .next (doRotMem .rrc s)

/-- RRC A (R202). -/
def execRrcA (s : State) : Result := .next (doRotReg .rrc .a s)

/-- RL B (R201). -/
def execRlB (s : State) : Result := .next (doRotReg .rl .b s)

/-- RL C (R201). -/
def execRlC (s : State) : Result := .next (doRotReg .rl .c s)

/-- RL D (R201). -/
def execRlD (s : State) : Result := .next (doRotReg .rl .d s)

/-- RL E (R201). -/
def execRlE (s : State) : Result := .next (doRotReg .rl .e s)

/-- RL H (R201). -/
def execRlH (s : State) : Result := .next (doRotReg .rl .h s)

/-- RL L (R201). -/
def execRlL (s : State) : Result := .next (doRotReg .rl .l s)

/-- RL (HL) (R201). -/
def execRlAtHl (s : State) : Result := .next (doRotMem .rl s)

/-- RL A (R201). -/
def execRlA (s : State) : Result := .next (doRotReg .rl .a s)

/-- RR B (R203). -/
def execRrB (s : State) : Result := .next (doRotReg .rr .b s)

/-- RR C (R203). -/
def execRrC (s : State) : Result := .next (doRotReg .rr .c s)

/-- RR D (R203). -/
def execRrD (s : State) : Result := .next (doRotReg .rr .d s)

/-- RR E (R203). -/
def execRrE (s : State) : Result := .next (doRotReg .rr .e s)

/-- RR H (R203). -/
def execRrH (s : State) : Result := .next (doRotReg .rr .h s)

/-- RR L (R203). -/
def execRrL (s : State) : Result := .next (doRotReg .rr .l s)

/-- RR (HL) (R203). -/
def execRrAtHl (s : State) : Result := .next (doRotMem .rr s)

/-- RR A (R203). -/
def execRrA (s : State) : Result := .next (doRotReg .rr .a s)

/-- SLA B (R204). -/
def execSlaB (s : State) : Result := .next (doRotReg .sla .b s)

/-- SLA C (R204). -/
def execSlaC (s : State) : Result := .next (doRotReg .sla .c s)

/-- SLA D (R204). -/
def execSlaD (s : State) : Result := .next (doRotReg .sla .d s)

/-- SLA E (R204). -/
def execSlaE (s : State) : Result := .next (doRotReg .sla .e s)

/-- SLA H (R204). -/
def execSlaH (s : State) : Result := .next (doRotReg .sla .h s)

/-- SLA L (R204). -/
def execSlaL (s : State) : Result := .next (doRotReg .sla .l s)

/-- SLA (HL) (R204). -/
def execSlaAtHl (s : State) : Result := .next (doRotMem .sla s)

/-- SLA A (R204). -/
def execSlaA (s : State) : Result := .next (doRotReg .sla .a s)

/-- SRA B (R205). -/
def execSraB (s : State) : Result := .next (doRotReg .sra .b s)

/-- SRA C (R205). -/
def execSraC (s : State) : Result := .next (doRotReg .sra .c s)

/-- SRA D (R205). -/
def execSraD (s : State) : Result := .next (doRotReg .sra .d s)

/-- SRA E (R205). -/
def execSraE (s : State) : Result := .next (doRotReg .sra .e s)

/-- SRA H (R205). -/
def execSraH (s : State) : Result := .next (doRotReg .sra .h s)

/-- SRA L (R205). -/
def execSraL (s : State) : Result := .next (doRotReg .sra .l s)

/-- SRA (HL) (R205). -/
def execSraAtHl (s : State) : Result := .next (doRotMem .sra s)

/-- SRA A (R205). -/
def execSraA (s : State) : Result := .next (doRotReg .sra .a s)

/-- SLL B (R206). -/
def execSllB (s : State) : Result := .next (doRotReg .sll .b s)

/-- SLL C (R206). -/
def execSllC (s : State) : Result := .next (doRotReg .sll .c s)

/-- SLL D (R206). -/
def execSllD (s : State) : Result := .next (doRotReg .sll .d s)

/-- SLL E (R206). -/
def execSllE (s : State) : Result := .next (doRotReg .sll .e s)

/-- SLL H (R206). -/
def execSllH (s : State) : Result := .next (doRotReg .sll .h s)

/-- SLL L (R206). -/
def execSllL (s : State) : Result := .next (doRotReg .sll .l s)

/-- SLL (HL) (R206). -/
def execSllAtHl (s : State) : Result := .next (doRotMem .sll s)

/-- SLL A (R206). -/
def execSllA (s : State) : Result := .next (doRotReg .sll .a s)

/-- SRL B (R207). -/
def execSrlB (s : State) : Result := .next (doRotReg .srl .b s)

/-- SRL C (R207). -/
def execSrlC (s : State) : Result := .next (doRotReg .srl .c s)

/-- SRL D (R207). -/
def execSrlD (s : State) : Result := .next (doRotReg .srl .d s)

/-- SRL E (R207). -/
def execSrlE (s : State) : Result := .next (doRotReg .srl .e s)

/-- SRL H (R207). -/
def execSrlH (s : State) : Result := .next (doRotReg .srl .h s)

/-- SRL L (R207). -/
def execSrlL (s : State) : Result := .next (doRotReg .srl .l s)

/-- SRL (HL) (R207). -/
def execSrlAtHl (s : State) : Result := .next (doRotMem .srl s)

/-- SRL A (R207). -/
def execSrlA (s : State) : Result := .next (doRotReg .srl .a s)

/-- RRD (R210). -/
def execRrd (s : State) : Result := .next (doRrd s)

/-- RLD (R209). -/
def execRld (s : State) : Result := .next (doRld s)

/-- RLC (ii+d),B (R208). -/
def execRlcAtIdxB (ii : Idx) (d : Byte) (s : State) : Result := .next (doIdxRot ii d .rlc (some .b) s)

/-- RLC (ii+d),C (R208). -/
def execRlcAtIdxC (ii : Idx) (d : Byte) (s : State) : Result := .next (doIdxRot ii d .rlc (some .c) s)

/-- RLC (ii+d),D (R208). -/
def execRlcAtIdxD (ii : Idx) (d : Byte) (s : State) : Result := .next (doIdxRot ii d .rlc (some .d) s)

/-- RLC (ii+d),E (R208). -/
def execRlcAtIdxE (ii : Idx) (d : Byte) (s : State) : Result := .next (doIdxRot ii d .rlc (some .e) s)

/-- RLC (ii+d),H (R208). -/
def execRlcAtIdxH (ii : Idx) (d : Byte) (s : State) : Result := .next (doIdxRot ii d .rlc (some .h) s)

/-- RLC (ii+d),L (R208). -/
def execRlcAtIdxL (ii : Idx) (d : Byte) (s : State) : Result := .next (doIdxRot ii d .rlc (some .l) s)

/-- RLC (ii+d) (R200). -/
def execRlcAtIdx (ii : Idx) (d : Byte) (s : State) : Result := .next (doIdxRot ii d .rlc none s)

/-- RLC (ii+d),A (R208). -/
def execRlcAtIdxA (ii : Idx) (d : Byte) (s : State) : Result := .next (doIdxRot ii d .rlc (some .a) s)

/-- RRC (ii+d),B (R208). -/
def execRrcAtIdxB (ii : Idx) (d : Byte) (s : State) : Result := .next (doIdxRot ii d .rrc (some .b) s)

/-- RRC (ii+d),C (R208). -/
def execRrcAtIdxC (ii : Idx) (d : Byte) (s : State) : Result := .next (doIdxRot ii d .rrc (some .c) s)

/-- RRC (ii+d),D (R208). -/
def execRrcAtIdxD (ii : Idx) (d : Byte) (s : State) : Result := .next (doIdxRot ii d .rrc (some .d) s)

/-- RRC (ii+d),E (R208). -/
def execRrcAtIdxE (ii : Idx) (d : Byte) (s : State) : Result := .next (doIdxRot ii d .rrc (some .e) s)

/-- RRC (ii+d),H (R208). -/
def execRrcAtIdxH (ii : Idx) (d : Byte) (s : State) : Result := .next (doIdxRot ii d .rrc (some .h) s)

/-- RRC (ii+d),L (R208). -/
def execRrcAtIdxL (ii : Idx) (d : Byte) (s : State) : Result := .next (doIdxRot ii d .rrc (some .l) s)

/-- RRC (ii+d) (R202). -/
def execRrcAtIdx (ii : Idx) (d : Byte) (s : State) : Result := .next (doIdxRot ii d .rrc none s)

/-- RRC (ii+d),A (R208). -/
def execRrcAtIdxA (ii : Idx) (d : Byte) (s : State) : Result := .next (doIdxRot ii d .rrc (some .a) s)

/-- RL (ii+d),B (R208). -/
def execRlAtIdxB (ii : Idx) (d : Byte) (s : State) : Result := .next (doIdxRot ii d .rl (some .b) s)

/-- RL (ii+d),C (R208). -/
def execRlAtIdxC (ii : Idx) (d : Byte) (s : State) : Result := .next (doIdxRot ii d .rl (some .c) s)

/-- RL (ii+d),D (R208). -/
def execRlAtIdxD (ii : Idx) (d : Byte) (s : State) : Result := .next (doIdxRot ii d .rl (some .d) s)

/-- RL (ii+d),E (R208). -/
def execRlAtIdxE (ii : Idx) (d : Byte) (s : State) : Result := .next (doIdxRot ii d .rl (some .e) s)

/-- RL (ii+d),H (R208). -/
def execRlAtIdxH (ii : Idx) (d : Byte) (s : State) : Result := .next (doIdxRot ii d .rl (some .h) s)

/-- RL (ii+d),L (R208). -/
def execRlAtIdxL (ii : Idx) (d : Byte) (s : State) : Result := .next (doIdxRot ii d .rl (some .l) s)

/-- RL (ii+d) (R201). -/
def execRlAtIdx (ii : Idx) (d : Byte) (s : State) : Result := .next (doIdxRot ii d .rl none s)

/-- RL (ii+d),A (R208). -/
def execRlAtIdxA (ii : Idx) (d : Byte) (s : State) : Result := .next (doIdxRot ii d .rl (some .a) s)

/-- RR (ii+d),B (R208). -/
def execRrAtIdxB (ii : Idx) (d : Byte) (s : State) : Result := .next (doIdxRot ii d .rr (some .b) s)

/-- RR (ii+d),C (R208). -/
def execRrAtIdxC (ii : Idx) (d : Byte) (s : State) : Result := .next (doIdxRot ii d .rr (some .c) s)

/-- RR (ii+d),D (R208). -/
def execRrAtIdxD (ii : Idx) (d : Byte) (s : State) : Result := .next (doIdxRot ii d .rr (some .d) s)

/-- RR (ii+d),E (R208). -/
def execRrAtIdxE (ii : Idx) (d : Byte) (s : State) : Result := .next (doIdxRot ii d .rr (some .e) s)

/-- RR (ii+d),H (R208). -/
def execRrAtIdxH (ii : Idx) (d : Byte) (s : State) : Result := .next (doIdxRot ii d .rr (some .h) s)

/-- RR (ii+d),L (R208). -/
def execRrAtIdxL (ii : Idx) (d : Byte) (s : State) : Result := .next (doIdxRot ii d .rr (some .l) s)

/-- RR (ii+d) (R203). -/
def execRrAtIdx (ii : Idx) (d : Byte) (s : State) : Result := .next (doIdxRot ii d .rr none s)

/-- RR (ii+d),A (R208). -/
def execRrAtIdxA (ii : Idx) (d : Byte) (s : State) : Result := .next (doIdxRot ii d .rr (some .a) s)

/-- SLA (ii+d),B (R208). -/
def execSlaAtIdxB (ii : Idx) (d : Byte) (s : State) : Result := .next (doIdxRot ii d .sla (some .b) s)

/-- SLA (ii+d),C (R208). -/
def execSlaAtIdxC (ii : Idx) (d : Byte) (s : State) : Result := .next (doIdxRot ii d .sla (some .c) s)

/-- SLA (ii+d),D (R208). -/
def execSlaAtIdxD (ii : Idx) (d : Byte) (s : State) : Result := .next (doIdxRot ii d .sla (some .d) s)

/-- SLA (ii+d),E (R208). -/
def execSlaAtIdxE (ii : Idx) (d : Byte) (s : State) : Result := .next (doIdxRot ii d .sla (some .e) s)

/-- SLA (ii+d),H (R208). -/
def execSlaAtIdxH (ii : Idx) (d : Byte) (s : State) : Result := .next (doIdxRot ii d .sla (some .h) s)

/-- SLA (ii+d),L (R208). -/
def execSlaAtIdxL (ii : Idx) (d : Byte) (s : State) : Result := .next (doIdxRot ii d .sla (some .l) s)

/-- SLA (ii+d) (R204). -/
def execSlaAtIdx (ii : Idx) (d : Byte) (s : State) : Result := .next (doIdxRot ii d .sla none s)

/-- SLA (ii+d),A (R208). -/
def execSlaAtIdxA (ii : Idx) (d : Byte) (s : State) : Result := .next (doIdxRot ii d .sla (some .a) s)

/-- SRA (ii+d),B (R208). -/
def execSraAtIdxB (ii : Idx) (d : Byte) (s : State) : Result := .next (doIdxRot ii d .sra (some .b) s)

/-- SRA (ii+d),C (R208). -/
def execSraAtIdxC (ii : Idx) (d : Byte) (s : State) : Result := .next (doIdxRot ii d .sra (some .c) s)

/-- SRA (ii+d),D (R208). -/
def execSraAtIdxD (ii : Idx) (d : Byte) (s : State) : Result := .next (doIdxRot ii d .sra (some .d) s)

/-- SRA (ii+d),E (R208). -/
def execSraAtIdxE (ii : Idx) (d : Byte) (s : State) : Result := .next (doIdxRot ii d .sra (some .e) s)

/-- SRA (ii+d),H (R208). -/
def execSraAtIdxH (ii : Idx) (d : Byte) (s : State) : Result := .next (doIdxRot ii d .sra (some .h) s)

/-- SRA (ii+d),L (R208). -/
def execSraAtIdxL (ii : Idx) (d : Byte) (s : State) : Result := .next (doIdxRot ii d .sra (some .l) s)

/-- SRA (ii+d) (R205). -/
def execSraAtIdx (ii : Idx) (d : Byte) (s : State) : Result := .next (doIdxRot ii d .sra none s)

/-- SRA (ii+d),A (R208). -/
def execSraAtIdxA (ii : Idx) (d : Byte) (s : State) : Result := .next (doIdxRot ii d .sra (some .a) s)

/-- SLL (ii+d),B (R208). -/
def execSllAtIdxB (ii : Idx) (d : Byte) (s : State) : Result := .next (doIdxRot ii d .sll (some .b) s)

/-- SLL (ii+d),C (R208). -/
def execSllAtIdxC (ii : Idx) (d : Byte) (s : State) : Result := .next (doIdxRot ii d .sll (some .c) s)

/-- SLL (ii+d),D (R208). -/
def execSllAtIdxD (ii : Idx) (d : Byte) (s : State) : Result := .next (doIdxRot ii d .sll (some .d) s)

/-- SLL (ii+d),E (R208). -/
def execSllAtIdxE (ii : Idx) (d : Byte) (s : State) : Result := .next (doIdxRot ii d .sll (some .e) s)

/-- SLL (ii+d),H (R208). -/
def execSllAtIdxH (ii : Idx) (d : Byte) (s : State) : Result := .next (doIdxRot ii d .sll (some .h) s)

/-- SLL (ii+d),L (R208). -/
def execSllAtIdxL (ii : Idx) (d : Byte) (s : State) : Result := .next (doIdxRot ii d .sll (some .l) s)

/-- SLL (ii+d) (R206). -/
def execSllAtIdx (ii : Idx) (d : Byte) (s : State) : Result := .next (doIdxRot ii d .sll none s)

/-- SLL (ii+d),A (R208). -/
def execSllAtIdxA (ii : Idx) (d : Byte) (s : State) : Result := .next (doIdxRot ii d .sll (some .a) s)

/-- SRL (ii+d),B (R208). -/
def execSrlAtIdxB (ii : Idx) (d : Byte) (s : State) : Result := .next (doIdxRot ii d .srl (some .b) s)

/-- SRL (ii+d),C (R208). -/
def execSrlAtIdxC (ii : Idx) (d : Byte) (s : State) : Result := .next (doIdxRot ii d .srl (some .c) s)

/-- SRL (ii+d),D (R208). -/
def execSrlAtIdxD (ii : Idx) (d : Byte) (s : State) : Result := .next (doIdxRot ii d .srl (some .d) s)

/-- SRL (ii+d),E (R208). -/
def execSrlAtIdxE (ii : Idx) (d : Byte) (s : State) : Result := .next (doIdxRot ii d .srl (some .e) s)

/-- SRL (ii+d),H (R208). -/
def execSrlAtIdxH (ii : Idx) (d : Byte) (s : State) : Result := .next (doIdxRot ii d .srl (some .h) s)

/-- SRL (ii+d),L (R208). -/
def execSrlAtIdxL (ii : Idx) (d : Byte) (s : State) : Result := .next (doIdxRot ii d .srl (some .l) s)

/-- SRL (ii+d) (R207). -/
def execSrlAtIdx (ii : Idx) (d : Byte) (s : State) : Result := .next (doIdxRot ii d .srl none s)

/-- SRL (ii+d),A (R208). -/
def execSrlAtIdxA (ii : Idx) (d : Byte) (s : State) : Result := .next (doIdxRot ii d .srl (some .a) s)

end Sys2Proof.Machine
end

