-- ==== Sys2Proof/Machine/Ignored.lean ====
section
/-! DEFINITION. The meanings of an index prefix before an opcode it does not affect, and before an ED instruction (R89,
R266): the instruction exactly as unprefixed, 4 cycles more. -/

namespace Sys2Proof.Machine

/-- The instruction `f` with a prefix that it ignores (R266). -/
def ignorePrefix (f : State → State) (s : State) : State := (f s).addCycles 4

/-- The ED instruction by its fields, as R89 executes it after an index prefix. -/
def runEd (o : EdOp) : State → State :=
  match o with
  | .inReg r => doInReg r
  | .inF => doInF
  | .outReg r => doOutReg r
  | .outZero => doOutZero
  | .sbcHl p => doSbcHl p
  | .adcHl p => doAdcHl p
  | .stPair nn p => doStPair nn p
  | .ldPair p nn => doLdPair p nn
  | .neg _ => doNeg
  | .retn _ => doRetn
  | .reti => doReti
  | .im m _ => doIm m
  | .ldIA => doLdIA
  | .ldRA => doLdRA
  | .ldAI => doLdAI
  | .ldAR => doLdAR
  | .rrd => doRrd
  | .rld => doRld
  | .blockLd d rep => doBlockLd d rep
  | .blockCp d rep => doBlockCp d rep
  | .blockIn d rep => doBlockIn d rep
  | .blockOut d rep => doBlockOut d rep
  | .nopStar _ => doNopStar

/-- NOP after an index prefix it ignores (R266). -/
def execIgnoredNop (_ii : Idx) (s : State) : Result := .next (ignorePrefix doNop s)

/-- LD BC,nn after an index prefix it ignores (R266). -/
def execIgnoredLdBcNn (_ii : Idx) (nn : Word) (s : State) : Result := .next (ignorePrefix (doLdPairN .bc nn) s)

/-- LD (BC),A after an index prefix it ignores (R266). -/
def execIgnoredLdAtBcA (_ii : Idx) (s : State) : Result := .next (ignorePrefix (doStA .bc) s)

/-- INC BC after an index prefix it ignores (R266). -/
def execIgnoredIncBc (_ii : Idx) (s : State) : Result := .next (ignorePrefix (doIncPair .bc) s)

/-- INC B after an index prefix it ignores (R266). -/
def execIgnoredIncB (_ii : Idx) (s : State) : Result := .next (ignorePrefix (doIncReg .b) s)

/-- DEC B after an index prefix it ignores (R266). -/
def execIgnoredDecB (_ii : Idx) (s : State) : Result := .next (ignorePrefix (doDecReg .b) s)

/-- LD B,n after an index prefix it ignores (R266). -/
def execIgnoredLdBN (_ii : Idx) (n : Byte) (s : State) : Result := .next (ignorePrefix (doLdRegN .b n) s)

/-- RLCA after an index prefix it ignores (R266). -/
def execIgnoredRlca (_ii : Idx) (s : State) : Result := .next (ignorePrefix doRlca s)

/-- EX AF,AF' after an index prefix it ignores (R266). -/
def execIgnoredExAfAf (_ii : Idx) (s : State) : Result := .next (ignorePrefix doExAfAf s)

/-- LD A,(BC) after an index prefix it ignores (R266). -/
def execIgnoredLdAAtBc (_ii : Idx) (s : State) : Result := .next (ignorePrefix (doLdA .bc) s)

/-- DEC BC after an index prefix it ignores (R266). -/
def execIgnoredDecBc (_ii : Idx) (s : State) : Result := .next (ignorePrefix (doDecPair .bc) s)

/-- INC C after an index prefix it ignores (R266). -/
def execIgnoredIncC (_ii : Idx) (s : State) : Result := .next (ignorePrefix (doIncReg .c) s)

/-- DEC C after an index prefix it ignores (R266). -/
def execIgnoredDecC (_ii : Idx) (s : State) : Result := .next (ignorePrefix (doDecReg .c) s)

/-- LD C,n after an index prefix it ignores (R266). -/
def execIgnoredLdCN (_ii : Idx) (n : Byte) (s : State) : Result := .next (ignorePrefix (doLdRegN .c n) s)

/-- RRCA after an index prefix it ignores (R266). -/
def execIgnoredRrca (_ii : Idx) (s : State) : Result := .next (ignorePrefix doRrca s)

/-- DJNZ e after an index prefix it ignores (R266). -/
def execIgnoredDjnzE (_ii : Idx) (e : Byte) (s : State) : Result := .next (ignorePrefix (doDjnz e) s)

/-- LD DE,nn after an index prefix it ignores (R266). -/
def execIgnoredLdDeNn (_ii : Idx) (nn : Word) (s : State) : Result := .next (ignorePrefix (doLdPairN .de nn) s)

/-- LD (DE),A after an index prefix it ignores (R266). -/
def execIgnoredLdAtDeA (_ii : Idx) (s : State) : Result := .next (ignorePrefix (doStA .de) s)

/-- INC DE after an index prefix it ignores (R266). -/
def execIgnoredIncDe (_ii : Idx) (s : State) : Result := .next (ignorePrefix (doIncPair .de) s)

/-- INC D after an index prefix it ignores (R266). -/
def execIgnoredIncD (_ii : Idx) (s : State) : Result := .next (ignorePrefix (doIncReg .d) s)

/-- DEC D after an index prefix it ignores (R266). -/
def execIgnoredDecD (_ii : Idx) (s : State) : Result := .next (ignorePrefix (doDecReg .d) s)

/-- LD D,n after an index prefix it ignores (R266). -/
def execIgnoredLdDN (_ii : Idx) (n : Byte) (s : State) : Result := .next (ignorePrefix (doLdRegN .d n) s)

/-- RLA after an index prefix it ignores (R266). -/
def execIgnoredRla (_ii : Idx) (s : State) : Result := .next (ignorePrefix doRla s)

/-- JR e after an index prefix it ignores (R266). -/
def execIgnoredJrE (_ii : Idx) (e : Byte) (s : State) : Result := .next (ignorePrefix (doJr e) s)

/-- LD A,(DE) after an index prefix it ignores (R266). -/
def execIgnoredLdAAtDe (_ii : Idx) (s : State) : Result := .next (ignorePrefix (doLdA .de) s)

/-- DEC DE after an index prefix it ignores (R266). -/
def execIgnoredDecDe (_ii : Idx) (s : State) : Result := .next (ignorePrefix (doDecPair .de) s)

/-- INC E after an index prefix it ignores (R266). -/
def execIgnoredIncE (_ii : Idx) (s : State) : Result := .next (ignorePrefix (doIncReg .e) s)

/-- DEC E after an index prefix it ignores (R266). -/
def execIgnoredDecE (_ii : Idx) (s : State) : Result := .next (ignorePrefix (doDecReg .e) s)

/-- LD E,n after an index prefix it ignores (R266). -/
def execIgnoredLdEN (_ii : Idx) (n : Byte) (s : State) : Result := .next (ignorePrefix (doLdRegN .e n) s)

/-- RRA after an index prefix it ignores (R266). -/
def execIgnoredRra (_ii : Idx) (s : State) : Result := .next (ignorePrefix doRra s)

/-- JR NZ,e after an index prefix it ignores (R266). -/
def execIgnoredJrNzE (_ii : Idx) (e : Byte) (s : State) : Result := .next (ignorePrefix (doJrCc .nz e) s)

/-- DAA after an index prefix it ignores (R266). -/
def execIgnoredDaa (_ii : Idx) (s : State) : Result := .next (ignorePrefix doDaa s)

/-- JR Z,e after an index prefix it ignores (R266). -/
def execIgnoredJrZE (_ii : Idx) (e : Byte) (s : State) : Result := .next (ignorePrefix (doJrCc .z e) s)

/-- CPL after an index prefix it ignores (R266). -/
def execIgnoredCpl (_ii : Idx) (s : State) : Result := .next (ignorePrefix doCpl s)

/-- JR NC,e after an index prefix it ignores (R266). -/
def execIgnoredJrNcE (_ii : Idx) (e : Byte) (s : State) : Result := .next (ignorePrefix (doJrCc .nc e) s)

/-- LD SP,nn after an index prefix it ignores (R266). -/
def execIgnoredLdSpNn (_ii : Idx) (nn : Word) (s : State) : Result := .next (ignorePrefix (doLdPairN .sp nn) s)

/-- LD (nn),A after an index prefix it ignores (R266). -/
def execIgnoredLdAtNnA (_ii : Idx) (nn : Word) (s : State) : Result := .next (ignorePrefix (doStAAbs nn) s)

/-- INC SP after an index prefix it ignores (R266). -/
def execIgnoredIncSp (_ii : Idx) (s : State) : Result := .next (ignorePrefix (doIncPair .sp) s)

/-- SCF after an index prefix it ignores (R266). -/
def execIgnoredScf (_ii : Idx) (s : State) : Result := .next (ignorePrefix doScf s)

/-- JR C,e after an index prefix it ignores (R266). -/
def execIgnoredJrCE (_ii : Idx) (e : Byte) (s : State) : Result := .next (ignorePrefix (doJrCc .c e) s)

/-- LD A,(nn) after an index prefix it ignores (R266). -/
def execIgnoredLdAAtNn (_ii : Idx) (nn : Word) (s : State) : Result := .next (ignorePrefix (doLdAAbs nn) s)

/-- DEC SP after an index prefix it ignores (R266). -/
def execIgnoredDecSp (_ii : Idx) (s : State) : Result := .next (ignorePrefix (doDecPair .sp) s)

/-- INC A after an index prefix it ignores (R266). -/
def execIgnoredIncA (_ii : Idx) (s : State) : Result := .next (ignorePrefix (doIncReg .a) s)

/-- DEC A after an index prefix it ignores (R266). -/
def execIgnoredDecA (_ii : Idx) (s : State) : Result := .next (ignorePrefix (doDecReg .a) s)

/-- LD A,n after an index prefix it ignores (R266). -/
def execIgnoredLdAN (_ii : Idx) (n : Byte) (s : State) : Result := .next (ignorePrefix (doLdRegN .a n) s)

/-- CCF after an index prefix it ignores (R266). -/
def execIgnoredCcf (_ii : Idx) (s : State) : Result := .next (ignorePrefix doCcf s)

/-- LD B,B after an index prefix it ignores (R266). -/
def execIgnoredLdBB (_ii : Idx) (s : State) : Result := .next (ignorePrefix (doLdRegReg .b .b) s)

/-- LD B,C after an index prefix it ignores (R266). -/
def execIgnoredLdBC (_ii : Idx) (s : State) : Result := .next (ignorePrefix (doLdRegReg .b .c) s)

/-- LD B,D after an index prefix it ignores (R266). -/
def execIgnoredLdBD (_ii : Idx) (s : State) : Result := .next (ignorePrefix (doLdRegReg .b .d) s)

/-- LD B,E after an index prefix it ignores (R266). -/
def execIgnoredLdBE (_ii : Idx) (s : State) : Result := .next (ignorePrefix (doLdRegReg .b .e) s)

/-- LD B,A after an index prefix it ignores (R266). -/
def execIgnoredLdBA (_ii : Idx) (s : State) : Result := .next (ignorePrefix (doLdRegReg .b .a) s)

/-- LD C,B after an index prefix it ignores (R266). -/
def execIgnoredLdCB (_ii : Idx) (s : State) : Result := .next (ignorePrefix (doLdRegReg .c .b) s)

/-- LD C,C after an index prefix it ignores (R266). -/
def execIgnoredLdCC (_ii : Idx) (s : State) : Result := .next (ignorePrefix (doLdRegReg .c .c) s)

/-- LD C,D after an index prefix it ignores (R266). -/
def execIgnoredLdCD (_ii : Idx) (s : State) : Result := .next (ignorePrefix (doLdRegReg .c .d) s)

/-- LD C,E after an index prefix it ignores (R266). -/
def execIgnoredLdCE (_ii : Idx) (s : State) : Result := .next (ignorePrefix (doLdRegReg .c .e) s)

/-- LD C,A after an index prefix it ignores (R266). -/
def execIgnoredLdCA (_ii : Idx) (s : State) : Result := .next (ignorePrefix (doLdRegReg .c .a) s)

/-- LD D,B after an index prefix it ignores (R266). -/
def execIgnoredLdDB (_ii : Idx) (s : State) : Result := .next (ignorePrefix (doLdRegReg .d .b) s)

/-- LD D,C after an index prefix it ignores (R266). -/
def execIgnoredLdDC (_ii : Idx) (s : State) : Result := .next (ignorePrefix (doLdRegReg .d .c) s)

/-- LD D,D after an index prefix it ignores (R266). -/
def execIgnoredLdDD (_ii : Idx) (s : State) : Result := .next (ignorePrefix (doLdRegReg .d .d) s)

/-- LD D,E after an index prefix it ignores (R266). -/
def execIgnoredLdDE (_ii : Idx) (s : State) : Result := .next (ignorePrefix (doLdRegReg .d .e) s)

/-- LD D,A after an index prefix it ignores (R266). -/
def execIgnoredLdDA (_ii : Idx) (s : State) : Result := .next (ignorePrefix (doLdRegReg .d .a) s)

/-- LD E,B after an index prefix it ignores (R266). -/
def execIgnoredLdEB (_ii : Idx) (s : State) : Result := .next (ignorePrefix (doLdRegReg .e .b) s)

/-- LD E,C after an index prefix it ignores (R266). -/
def execIgnoredLdEC (_ii : Idx) (s : State) : Result := .next (ignorePrefix (doLdRegReg .e .c) s)

/-- LD E,D after an index prefix it ignores (R266). -/
def execIgnoredLdED (_ii : Idx) (s : State) : Result := .next (ignorePrefix (doLdRegReg .e .d) s)

/-- LD E,E after an index prefix it ignores (R266). -/
def execIgnoredLdEE (_ii : Idx) (s : State) : Result := .next (ignorePrefix (doLdRegReg .e .e) s)

/-- LD E,A after an index prefix it ignores (R266). -/
def execIgnoredLdEA (_ii : Idx) (s : State) : Result := .next (ignorePrefix (doLdRegReg .e .a) s)

/-- HALT after an index prefix it ignores (R266). -/
def execIgnoredHalt (_ii : Idx) (s : State) : Result := .next (ignorePrefix doHalt s)

/-- LD A,B after an index prefix it ignores (R266). -/
def execIgnoredLdAB (_ii : Idx) (s : State) : Result := .next (ignorePrefix (doLdRegReg .a .b) s)

/-- LD A,C after an index prefix it ignores (R266). -/
def execIgnoredLdAC (_ii : Idx) (s : State) : Result := .next (ignorePrefix (doLdRegReg .a .c) s)

/-- LD A,D after an index prefix it ignores (R266). -/
def execIgnoredLdAD (_ii : Idx) (s : State) : Result := .next (ignorePrefix (doLdRegReg .a .d) s)

/-- LD A,E after an index prefix it ignores (R266). -/
def execIgnoredLdAE (_ii : Idx) (s : State) : Result := .next (ignorePrefix (doLdRegReg .a .e) s)

/-- LD A,A after an index prefix it ignores (R266). -/
def execIgnoredLdAA (_ii : Idx) (s : State) : Result := .next (ignorePrefix (doLdRegReg .a .a) s)

/-- ADD A,B after an index prefix it ignores (R266). -/
def execIgnoredAddAB (_ii : Idx) (s : State) : Result := .next (ignorePrefix (doAluReg .add .b) s)

/-- ADD A,C after an index prefix it ignores (R266). -/
def execIgnoredAddAC (_ii : Idx) (s : State) : Result := .next (ignorePrefix (doAluReg .add .c) s)

/-- ADD A,D after an index prefix it ignores (R266). -/
def execIgnoredAddAD (_ii : Idx) (s : State) : Result := .next (ignorePrefix (doAluReg .add .d) s)

/-- ADD A,E after an index prefix it ignores (R266). -/
def execIgnoredAddAE (_ii : Idx) (s : State) : Result := .next (ignorePrefix (doAluReg .add .e) s)

/-- ADD A,A after an index prefix it ignores (R266). -/
def execIgnoredAddAA (_ii : Idx) (s : State) : Result := .next (ignorePrefix (doAluReg .add .a) s)

/-- ADC A,B after an index prefix it ignores (R266). -/
def execIgnoredAdcAB (_ii : Idx) (s : State) : Result := .next (ignorePrefix (doAluReg .adc .b) s)

/-- ADC A,C after an index prefix it ignores (R266). -/
def execIgnoredAdcAC (_ii : Idx) (s : State) : Result := .next (ignorePrefix (doAluReg .adc .c) s)

/-- ADC A,D after an index prefix it ignores (R266). -/
def execIgnoredAdcAD (_ii : Idx) (s : State) : Result := .next (ignorePrefix (doAluReg .adc .d) s)

/-- ADC A,E after an index prefix it ignores (R266). -/
def execIgnoredAdcAE (_ii : Idx) (s : State) : Result := .next (ignorePrefix (doAluReg .adc .e) s)

/-- ADC A,A after an index prefix it ignores (R266). -/
def execIgnoredAdcAA (_ii : Idx) (s : State) : Result := .next (ignorePrefix (doAluReg .adc .a) s)

/-- SUB B after an index prefix it ignores (R266). -/
def execIgnoredSubB (_ii : Idx) (s : State) : Result := .next (ignorePrefix (doAluReg .sub .b) s)

/-- SUB C after an index prefix it ignores (R266). -/
def execIgnoredSubC (_ii : Idx) (s : State) : Result := .next (ignorePrefix (doAluReg .sub .c) s)

/-- SUB D after an index prefix it ignores (R266). -/
def execIgnoredSubD (_ii : Idx) (s : State) : Result := .next (ignorePrefix (doAluReg .sub .d) s)

/-- SUB E after an index prefix it ignores (R266). -/
def execIgnoredSubE (_ii : Idx) (s : State) : Result := .next (ignorePrefix (doAluReg .sub .e) s)

/-- SUB A after an index prefix it ignores (R266). -/
def execIgnoredSubA (_ii : Idx) (s : State) : Result := .next (ignorePrefix (doAluReg .sub .a) s)

/-- SBC A,B after an index prefix it ignores (R266). -/
def execIgnoredSbcAB (_ii : Idx) (s : State) : Result := .next (ignorePrefix (doAluReg .sbc .b) s)

/-- SBC A,C after an index prefix it ignores (R266). -/
def execIgnoredSbcAC (_ii : Idx) (s : State) : Result := .next (ignorePrefix (doAluReg .sbc .c) s)

/-- SBC A,D after an index prefix it ignores (R266). -/
def execIgnoredSbcAD (_ii : Idx) (s : State) : Result := .next (ignorePrefix (doAluReg .sbc .d) s)

/-- SBC A,E after an index prefix it ignores (R266). -/
def execIgnoredSbcAE (_ii : Idx) (s : State) : Result := .next (ignorePrefix (doAluReg .sbc .e) s)

/-- SBC A,A after an index prefix it ignores (R266). -/
def execIgnoredSbcAA (_ii : Idx) (s : State) : Result := .next (ignorePrefix (doAluReg .sbc .a) s)

/-- AND B after an index prefix it ignores (R266). -/
def execIgnoredAndB (_ii : Idx) (s : State) : Result := .next (ignorePrefix (doAluReg .and .b) s)

/-- AND C after an index prefix it ignores (R266). -/
def execIgnoredAndC (_ii : Idx) (s : State) : Result := .next (ignorePrefix (doAluReg .and .c) s)

/-- AND D after an index prefix it ignores (R266). -/
def execIgnoredAndD (_ii : Idx) (s : State) : Result := .next (ignorePrefix (doAluReg .and .d) s)

/-- AND E after an index prefix it ignores (R266). -/
def execIgnoredAndE (_ii : Idx) (s : State) : Result := .next (ignorePrefix (doAluReg .and .e) s)

/-- AND A after an index prefix it ignores (R266). -/
def execIgnoredAndA (_ii : Idx) (s : State) : Result := .next (ignorePrefix (doAluReg .and .a) s)

/-- XOR B after an index prefix it ignores (R266). -/
def execIgnoredXorB (_ii : Idx) (s : State) : Result := .next (ignorePrefix (doAluReg .xor .b) s)

/-- XOR C after an index prefix it ignores (R266). -/
def execIgnoredXorC (_ii : Idx) (s : State) : Result := .next (ignorePrefix (doAluReg .xor .c) s)

/-- XOR D after an index prefix it ignores (R266). -/
def execIgnoredXorD (_ii : Idx) (s : State) : Result := .next (ignorePrefix (doAluReg .xor .d) s)

/-- XOR E after an index prefix it ignores (R266). -/
def execIgnoredXorE (_ii : Idx) (s : State) : Result := .next (ignorePrefix (doAluReg .xor .e) s)

/-- XOR A after an index prefix it ignores (R266). -/
def execIgnoredXorA (_ii : Idx) (s : State) : Result := .next (ignorePrefix (doAluReg .xor .a) s)

/-- OR B after an index prefix it ignores (R266). -/
def execIgnoredOrB (_ii : Idx) (s : State) : Result := .next (ignorePrefix (doAluReg .or .b) s)

/-- OR C after an index prefix it ignores (R266). -/
def execIgnoredOrC (_ii : Idx) (s : State) : Result := .next (ignorePrefix (doAluReg .or .c) s)

/-- OR D after an index prefix it ignores (R266). -/
def execIgnoredOrD (_ii : Idx) (s : State) : Result := .next (ignorePrefix (doAluReg .or .d) s)

/-- OR E after an index prefix it ignores (R266). -/
def execIgnoredOrE (_ii : Idx) (s : State) : Result := .next (ignorePrefix (doAluReg .or .e) s)

/-- OR A after an index prefix it ignores (R266). -/
def execIgnoredOrA (_ii : Idx) (s : State) : Result := .next (ignorePrefix (doAluReg .or .a) s)

/-- CP B after an index prefix it ignores (R266). -/
def execIgnoredCpB (_ii : Idx) (s : State) : Result := .next (ignorePrefix (doAluReg .cp .b) s)

/-- CP C after an index prefix it ignores (R266). -/
def execIgnoredCpC (_ii : Idx) (s : State) : Result := .next (ignorePrefix (doAluReg .cp .c) s)

/-- CP D after an index prefix it ignores (R266). -/
def execIgnoredCpD (_ii : Idx) (s : State) : Result := .next (ignorePrefix (doAluReg .cp .d) s)

/-- CP E after an index prefix it ignores (R266). -/
def execIgnoredCpE (_ii : Idx) (s : State) : Result := .next (ignorePrefix (doAluReg .cp .e) s)

/-- CP A after an index prefix it ignores (R266). -/
def execIgnoredCpA (_ii : Idx) (s : State) : Result := .next (ignorePrefix (doAluReg .cp .a) s)

/-- RET NZ after an index prefix it ignores (R266). -/
def execIgnoredRetNz (_ii : Idx) (s : State) : Result := .next (ignorePrefix (doRetCc .nz) s)

/-- POP BC after an index prefix it ignores (R266). -/
def execIgnoredPopBc (_ii : Idx) (s : State) : Result := .next (ignorePrefix (doPop .bc) s)

/-- JP NZ,nn after an index prefix it ignores (R266). -/
def execIgnoredJpNzNn (_ii : Idx) (nn : Word) (s : State) : Result := .next (ignorePrefix (doJpCc .nz nn) s)

/-- JP nn after an index prefix it ignores (R266). -/
def execIgnoredJpNn (_ii : Idx) (nn : Word) (s : State) : Result := .next (ignorePrefix (doJp nn) s)

/-- CALL NZ,nn after an index prefix it ignores (R266). -/
def execIgnoredCallNzNn (_ii : Idx) (nn : Word) (s : State) : Result := .next (ignorePrefix (doCallCc .nz nn) s)

/-- PUSH BC after an index prefix it ignores (R266). -/
def execIgnoredPushBc (_ii : Idx) (s : State) : Result := .next (ignorePrefix (doPush .bc) s)

/-- ADD A,n after an index prefix it ignores (R266). -/
def execIgnoredAddAN (_ii : Idx) (n : Byte) (s : State) : Result := .next (ignorePrefix (doAluN .add n) s)

/-- RST 00H after an index prefix it ignores (R266). -/
def execIgnoredRst00 (_ii : Idx) (s : State) : Result := .next (ignorePrefix (doRst 0#3) s)

/-- RET Z after an index prefix it ignores (R266). -/
def execIgnoredRetZ (_ii : Idx) (s : State) : Result := .next (ignorePrefix (doRetCc .z) s)

/-- RET after an index prefix it ignores (R266). -/
def execIgnoredRet (_ii : Idx) (s : State) : Result := .next (ignorePrefix doRet s)

/-- JP Z,nn after an index prefix it ignores (R266). -/
def execIgnoredJpZNn (_ii : Idx) (nn : Word) (s : State) : Result := .next (ignorePrefix (doJpCc .z nn) s)

/-- CALL Z,nn after an index prefix it ignores (R266). -/
def execIgnoredCallZNn (_ii : Idx) (nn : Word) (s : State) : Result := .next (ignorePrefix (doCallCc .z nn) s)

/-- CALL nn after an index prefix it ignores (R266). -/
def execIgnoredCallNn (_ii : Idx) (nn : Word) (s : State) : Result := .next (ignorePrefix (doCall nn) s)

/-- ADC A,n after an index prefix it ignores (R266). -/
def execIgnoredAdcAN (_ii : Idx) (n : Byte) (s : State) : Result := .next (ignorePrefix (doAluN .adc n) s)

/-- RST 08H after an index prefix it ignores (R266). -/
def execIgnoredRst08 (_ii : Idx) (s : State) : Result := .next (ignorePrefix (doRst 1#3) s)

/-- RET NC after an index prefix it ignores (R266). -/
def execIgnoredRetNc (_ii : Idx) (s : State) : Result := .next (ignorePrefix (doRetCc .nc) s)

/-- POP DE after an index prefix it ignores (R266). -/
def execIgnoredPopDe (_ii : Idx) (s : State) : Result := .next (ignorePrefix (doPop .de) s)

/-- JP NC,nn after an index prefix it ignores (R266). -/
def execIgnoredJpNcNn (_ii : Idx) (nn : Word) (s : State) : Result := .next (ignorePrefix (doJpCc .nc nn) s)

/-- OUT (n),A after an index prefix it ignores (R266). -/
def execIgnoredOutAtNA (_ii : Idx) (n : Byte) (s : State) : Result := .next (ignorePrefix (doOutNA n) s)

/-- CALL NC,nn after an index prefix it ignores (R266). -/
def execIgnoredCallNcNn (_ii : Idx) (nn : Word) (s : State) : Result := .next (ignorePrefix (doCallCc .nc nn) s)

/-- PUSH DE after an index prefix it ignores (R266). -/
def execIgnoredPushDe (_ii : Idx) (s : State) : Result := .next (ignorePrefix (doPush .de) s)

/-- SUB n after an index prefix it ignores (R266). -/
def execIgnoredSubN (_ii : Idx) (n : Byte) (s : State) : Result := .next (ignorePrefix (doAluN .sub n) s)

/-- RST 10H after an index prefix it ignores (R266). -/
def execIgnoredRst10 (_ii : Idx) (s : State) : Result := .next (ignorePrefix (doRst 2#3) s)

/-- RET C after an index prefix it ignores (R266). -/
def execIgnoredRetC (_ii : Idx) (s : State) : Result := .next (ignorePrefix (doRetCc .c) s)

/-- EXX after an index prefix it ignores (R266). -/
def execIgnoredExx (_ii : Idx) (s : State) : Result := .next (ignorePrefix doExx s)

/-- JP C,nn after an index prefix it ignores (R266). -/
def execIgnoredJpCNn (_ii : Idx) (nn : Word) (s : State) : Result := .next (ignorePrefix (doJpCc .c nn) s)

/-- IN A,(n) after an index prefix it ignores (R266). -/
def execIgnoredInAAtN (_ii : Idx) (n : Byte) (s : State) : Result := .next (ignorePrefix (doInAN n) s)

/-- CALL C,nn after an index prefix it ignores (R266). -/
def execIgnoredCallCNn (_ii : Idx) (nn : Word) (s : State) : Result := .next (ignorePrefix (doCallCc .c nn) s)

/-- SBC A,n after an index prefix it ignores (R266). -/
def execIgnoredSbcAN (_ii : Idx) (n : Byte) (s : State) : Result := .next (ignorePrefix (doAluN .sbc n) s)

/-- RST 18H after an index prefix it ignores (R266). -/
def execIgnoredRst18 (_ii : Idx) (s : State) : Result := .next (ignorePrefix (doRst 3#3) s)

/-- RET PO after an index prefix it ignores (R266). -/
def execIgnoredRetPo (_ii : Idx) (s : State) : Result := .next (ignorePrefix (doRetCc .po) s)

/-- JP PO,nn after an index prefix it ignores (R266). -/
def execIgnoredJpPoNn (_ii : Idx) (nn : Word) (s : State) : Result := .next (ignorePrefix (doJpCc .po nn) s)

/-- CALL PO,nn after an index prefix it ignores (R266). -/
def execIgnoredCallPoNn (_ii : Idx) (nn : Word) (s : State) : Result := .next (ignorePrefix (doCallCc .po nn) s)

/-- AND n after an index prefix it ignores (R266). -/
def execIgnoredAndN (_ii : Idx) (n : Byte) (s : State) : Result := .next (ignorePrefix (doAluN .and n) s)

/-- RST 20H after an index prefix it ignores (R266). -/
def execIgnoredRst20 (_ii : Idx) (s : State) : Result := .next (ignorePrefix (doRst 4#3) s)

/-- RET PE after an index prefix it ignores (R266). -/
def execIgnoredRetPe (_ii : Idx) (s : State) : Result := .next (ignorePrefix (doRetCc .pe) s)

/-- JP PE,nn after an index prefix it ignores (R266). -/
def execIgnoredJpPeNn (_ii : Idx) (nn : Word) (s : State) : Result := .next (ignorePrefix (doJpCc .pe nn) s)

/-- EX DE,HL after an index prefix it ignores (R266). -/
def execIgnoredExDeHl (_ii : Idx) (s : State) : Result := .next (ignorePrefix doExDeHl s)

/-- CALL PE,nn after an index prefix it ignores (R266). -/
def execIgnoredCallPeNn (_ii : Idx) (nn : Word) (s : State) : Result := .next (ignorePrefix (doCallCc .pe nn) s)

/-- An ED instruction after an index prefix (R89, R266). -/
def execIgnoredEd (_ii : Idx) (o : EdOp) (s : State) : Result := .next (ignorePrefix (runEd o) s)

/-- XOR n after an index prefix it ignores (R266). -/
def execIgnoredXorN (_ii : Idx) (n : Byte) (s : State) : Result := .next (ignorePrefix (doAluN .xor n) s)

/-- RST 28H after an index prefix it ignores (R266). -/
def execIgnoredRst28 (_ii : Idx) (s : State) : Result := .next (ignorePrefix (doRst 5#3) s)

/-- RET P after an index prefix it ignores (R266). -/
def execIgnoredRetP (_ii : Idx) (s : State) : Result := .next (ignorePrefix (doRetCc .p) s)

/-- POP AF after an index prefix it ignores (R266). -/
def execIgnoredPopAf (_ii : Idx) (s : State) : Result := .next (ignorePrefix (doPop .af) s)

/-- JP P,nn after an index prefix it ignores (R266). -/
def execIgnoredJpPNn (_ii : Idx) (nn : Word) (s : State) : Result := .next (ignorePrefix (doJpCc .p nn) s)

/-- DI after an index prefix it ignores (R266). -/
def execIgnoredDi (_ii : Idx) (s : State) : Result := .next (ignorePrefix doDi s)

/-- CALL P,nn after an index prefix it ignores (R266). -/
def execIgnoredCallPNn (_ii : Idx) (nn : Word) (s : State) : Result := .next (ignorePrefix (doCallCc .p nn) s)

/-- PUSH AF after an index prefix it ignores (R266). -/
def execIgnoredPushAf (_ii : Idx) (s : State) : Result := .next (ignorePrefix (doPush .af) s)

/-- OR n after an index prefix it ignores (R266). -/
def execIgnoredOrN (_ii : Idx) (n : Byte) (s : State) : Result := .next (ignorePrefix (doAluN .or n) s)

/-- RST 30H after an index prefix it ignores (R266). -/
def execIgnoredRst30 (_ii : Idx) (s : State) : Result := .next (ignorePrefix (doRst 6#3) s)

/-- RET M after an index prefix it ignores (R266). -/
def execIgnoredRetM (_ii : Idx) (s : State) : Result := .next (ignorePrefix (doRetCc .m) s)

/-- JP M,nn after an index prefix it ignores (R266). -/
def execIgnoredJpMNn (_ii : Idx) (nn : Word) (s : State) : Result := .next (ignorePrefix (doJpCc .m nn) s)

/-- EI after an index prefix it ignores (R266). -/
def execIgnoredEi (_ii : Idx) (s : State) : Result := .next (ignorePrefix doEi s)

/-- CALL M,nn after an index prefix it ignores (R266). -/
def execIgnoredCallMNn (_ii : Idx) (nn : Word) (s : State) : Result := .next (ignorePrefix (doCallCc .m nn) s)

/-- CP n after an index prefix it ignores (R266). -/
def execIgnoredCpN (_ii : Idx) (n : Byte) (s : State) : Result := .next (ignorePrefix (doAluN .cp n) s)

/-- RST 38H after an index prefix it ignores (R266). -/
def execIgnoredRst38 (_ii : Idx) (s : State) : Result := .next (ignorePrefix (doRst 7#3) s)

end Sys2Proof.Machine
end

