-- ==== Sys2Proof/Machine/Dispatch.lean ====
section
/-! DEFINITION. Which meaning each instruction has. -/

namespace Sys2Proof.Machine

def exec (i : Instr) (s : State) : Host.Outcome State Fault Refusal :=
  match i with
  | .nop => Sys2Proof.Machine.execNop s
  | .ldBcNn nn => Sys2Proof.Machine.execLdBcNn nn s
  | .ldAtBcA => Sys2Proof.Machine.execLdAtBcA s
  | .incBc => Sys2Proof.Machine.execIncBc s
  | .incB => Sys2Proof.Machine.execIncB s
  | .decB => Sys2Proof.Machine.execDecB s
  | .ldBN n => Sys2Proof.Machine.execLdBN n s
  | .rlca => Sys2Proof.Machine.execRlca s
  | .exAfAf => Sys2Proof.Machine.execExAfAf s
  | .addHlBc => Sys2Proof.Machine.execAddHlBc s
  | .ldAAtBc => Sys2Proof.Machine.execLdAAtBc s
  | .decBc => Sys2Proof.Machine.execDecBc s
  | .incC => Sys2Proof.Machine.execIncC s
  | .decC => Sys2Proof.Machine.execDecC s
  | .ldCN n => Sys2Proof.Machine.execLdCN n s
  | .rrca => Sys2Proof.Machine.execRrca s
  | .djnzE e => Sys2Proof.Machine.execDjnzE e s
  | .ldDeNn nn => Sys2Proof.Machine.execLdDeNn nn s
  | .ldAtDeA => Sys2Proof.Machine.execLdAtDeA s
  | .incDe => Sys2Proof.Machine.execIncDe s
  | .incD => Sys2Proof.Machine.execIncD s
  | .decD => Sys2Proof.Machine.execDecD s
  | .ldDN n => Sys2Proof.Machine.execLdDN n s
  | .rla => Sys2Proof.Machine.execRla s
  | .jrE e => Sys2Proof.Machine.execJrE e s
  | .addHlDe => Sys2Proof.Machine.execAddHlDe s
  | .ldAAtDe => Sys2Proof.Machine.execLdAAtDe s
  | .decDe => Sys2Proof.Machine.execDecDe s
  | .incE => Sys2Proof.Machine.execIncE s
  | .decE => Sys2Proof.Machine.execDecE s
  | .ldEN n => Sys2Proof.Machine.execLdEN n s
  | .rra => Sys2Proof.Machine.execRra s
  | .jrNzE e => Sys2Proof.Machine.execJrNzE e s
  | .ldHlNn nn => Sys2Proof.Machine.execLdHlNn nn s
  | .ldAtNnHl nn => Sys2Proof.Machine.execLdAtNnHl nn s
  | .incHl => Sys2Proof.Machine.execIncHl s
  | .incH => Sys2Proof.Machine.execIncH s
  | .decH => Sys2Proof.Machine.execDecH s
  | .ldHN n => Sys2Proof.Machine.execLdHN n s
  | .daa => Sys2Proof.Machine.execDaa s
  | .jrZE e => Sys2Proof.Machine.execJrZE e s
  | .addHlHl => Sys2Proof.Machine.execAddHlHl s
  | .ldHlAtNn nn => Sys2Proof.Machine.execLdHlAtNn nn s
  | .decHl => Sys2Proof.Machine.execDecHl s
  | .incL => Sys2Proof.Machine.execIncL s
  | .decL => Sys2Proof.Machine.execDecL s
  | .ldLN n => Sys2Proof.Machine.execLdLN n s
  | .cpl => Sys2Proof.Machine.execCpl s
  | .jrNcE e => Sys2Proof.Machine.execJrNcE e s
  | .ldSpNn nn => Sys2Proof.Machine.execLdSpNn nn s
  | .ldAtNnA nn => Sys2Proof.Machine.execLdAtNnA nn s
  | .incSp => Sys2Proof.Machine.execIncSp s
  | .incAtHl => Sys2Proof.Machine.execIncAtHl s
  | .decAtHl => Sys2Proof.Machine.execDecAtHl s
  | .ldAtHlN n => Sys2Proof.Machine.execLdAtHlN n s
  | .scf => Sys2Proof.Machine.execScf s
  | .jrCE e => Sys2Proof.Machine.execJrCE e s
  | .addHlSp => Sys2Proof.Machine.execAddHlSp s
  | .ldAAtNn nn => Sys2Proof.Machine.execLdAAtNn nn s
  | .decSp => Sys2Proof.Machine.execDecSp s
  | .incA => Sys2Proof.Machine.execIncA s
  | .decA => Sys2Proof.Machine.execDecA s
  | .ldAN n => Sys2Proof.Machine.execLdAN n s
  | .ccf => Sys2Proof.Machine.execCcf s
  | .ldBB => Sys2Proof.Machine.execLdBB s
  | .ldBC => Sys2Proof.Machine.execLdBC s
  | .ldBD => Sys2Proof.Machine.execLdBD s
  | .ldBE => Sys2Proof.Machine.execLdBE s
  | .ldBH => Sys2Proof.Machine.execLdBH s
  | .ldBL => Sys2Proof.Machine.execLdBL s
  | .ldBAtHl => Sys2Proof.Machine.execLdBAtHl s
  | .ldBA => Sys2Proof.Machine.execLdBA s
  | .ldCB => Sys2Proof.Machine.execLdCB s
  | .ldCC => Sys2Proof.Machine.execLdCC s
  | .ldCD => Sys2Proof.Machine.execLdCD s
  | .ldCE => Sys2Proof.Machine.execLdCE s
  | .ldCH => Sys2Proof.Machine.execLdCH s
  | .ldCL => Sys2Proof.Machine.execLdCL s
  | .ldCAtHl => Sys2Proof.Machine.execLdCAtHl s
  | .ldCA => Sys2Proof.Machine.execLdCA s
  | .ldDB => Sys2Proof.Machine.execLdDB s
  | .ldDC => Sys2Proof.Machine.execLdDC s
  | .ldDD => Sys2Proof.Machine.execLdDD s
  | .ldDE => Sys2Proof.Machine.execLdDE s
  | .ldDH => Sys2Proof.Machine.execLdDH s
  | .ldDL => Sys2Proof.Machine.execLdDL s
  | .ldDAtHl => Sys2Proof.Machine.execLdDAtHl s
  | .ldDA => Sys2Proof.Machine.execLdDA s
  | .ldEB => Sys2Proof.Machine.execLdEB s
  | .ldEC => Sys2Proof.Machine.execLdEC s
  | .ldED => Sys2Proof.Machine.execLdED s
  | .ldEE => Sys2Proof.Machine.execLdEE s
  | .ldEH => Sys2Proof.Machine.execLdEH s
  | .ldEL => Sys2Proof.Machine.execLdEL s
  | .ldEAtHl => Sys2Proof.Machine.execLdEAtHl s
  | .ldEA => Sys2Proof.Machine.execLdEA s
  | .ldHB => Sys2Proof.Machine.execLdHB s
  | .ldHC => Sys2Proof.Machine.execLdHC s
  | .ldHD => Sys2Proof.Machine.execLdHD s
  | .ldHE => Sys2Proof.Machine.execLdHE s
  | .ldHH => Sys2Proof.Machine.execLdHH s
  | .ldHL => Sys2Proof.Machine.execLdHL s
  | .ldHAtHl => Sys2Proof.Machine.execLdHAtHl s
  | .ldHA => Sys2Proof.Machine.execLdHA s
  | .ldLB => Sys2Proof.Machine.execLdLB s
  | .ldLC => Sys2Proof.Machine.execLdLC s
  | .ldLD => Sys2Proof.Machine.execLdLD s
  | .ldLE => Sys2Proof.Machine.execLdLE s
  | .ldLH => Sys2Proof.Machine.execLdLH s
  | .ldLL => Sys2Proof.Machine.execLdLL s
  | .ldLAtHl => Sys2Proof.Machine.execLdLAtHl s
  | .ldLA => Sys2Proof.Machine.execLdLA s
  | .ldAtHlB => Sys2Proof.Machine.execLdAtHlB s
  | .ldAtHlC => Sys2Proof.Machine.execLdAtHlC s
  | .ldAtHlD => Sys2Proof.Machine.execLdAtHlD s
  | .ldAtHlE => Sys2Proof.Machine.execLdAtHlE s
  | .ldAtHlH => Sys2Proof.Machine.execLdAtHlH s
  | .ldAtHlL => Sys2Proof.Machine.execLdAtHlL s
  | .halt => Sys2Proof.Machine.execHalt s
  | .ldAtHlA => Sys2Proof.Machine.execLdAtHlA s
  | .ldAB => Sys2Proof.Machine.execLdAB s
  | .ldAC => Sys2Proof.Machine.execLdAC s
  | .ldAD => Sys2Proof.Machine.execLdAD s
  | .ldAE => Sys2Proof.Machine.execLdAE s
  | .ldAH => Sys2Proof.Machine.execLdAH s
  | .ldAL => Sys2Proof.Machine.execLdAL s
  | .ldAAtHl => Sys2Proof.Machine.execLdAAtHl s
  | .ldAA => Sys2Proof.Machine.execLdAA s
  | .addAB => Sys2Proof.Machine.execAddAB s
  | .addAC => Sys2Proof.Machine.execAddAC s
  | .addAD => Sys2Proof.Machine.execAddAD s
  | .addAE => Sys2Proof.Machine.execAddAE s
  | .addAH => Sys2Proof.Machine.execAddAH s
  | .addAL => Sys2Proof.Machine.execAddAL s
  | .addAAtHl => Sys2Proof.Machine.execAddAAtHl s
  | .addAA => Sys2Proof.Machine.execAddAA s
  | .adcAB => Sys2Proof.Machine.execAdcAB s
  | .adcAC => Sys2Proof.Machine.execAdcAC s
  | .adcAD => Sys2Proof.Machine.execAdcAD s
  | .adcAE => Sys2Proof.Machine.execAdcAE s
  | .adcAH => Sys2Proof.Machine.execAdcAH s
  | .adcAL => Sys2Proof.Machine.execAdcAL s
  | .adcAAtHl => Sys2Proof.Machine.execAdcAAtHl s
  | .adcAA => Sys2Proof.Machine.execAdcAA s
  | .subB => Sys2Proof.Machine.execSubB s
  | .subC => Sys2Proof.Machine.execSubC s
  | .subD => Sys2Proof.Machine.execSubD s
  | .subE => Sys2Proof.Machine.execSubE s
  | .subH => Sys2Proof.Machine.execSubH s
  | .subL => Sys2Proof.Machine.execSubL s
  | .subAtHl => Sys2Proof.Machine.execSubAtHl s
  | .subA => Sys2Proof.Machine.execSubA s
  | .sbcAB => Sys2Proof.Machine.execSbcAB s
  | .sbcAC => Sys2Proof.Machine.execSbcAC s
  | .sbcAD => Sys2Proof.Machine.execSbcAD s
  | .sbcAE => Sys2Proof.Machine.execSbcAE s
  | .sbcAH => Sys2Proof.Machine.execSbcAH s
  | .sbcAL => Sys2Proof.Machine.execSbcAL s
  | .sbcAAtHl => Sys2Proof.Machine.execSbcAAtHl s
  | .sbcAA => Sys2Proof.Machine.execSbcAA s
  | .andB => Sys2Proof.Machine.execAndB s
  | .andC => Sys2Proof.Machine.execAndC s
  | .andD => Sys2Proof.Machine.execAndD s
  | .andE => Sys2Proof.Machine.execAndE s
  | .andH => Sys2Proof.Machine.execAndH s
  | .andL => Sys2Proof.Machine.execAndL s
  | .andAtHl => Sys2Proof.Machine.execAndAtHl s
  | .andA => Sys2Proof.Machine.execAndA s
  | .xorB => Sys2Proof.Machine.execXorB s
  | .xorC => Sys2Proof.Machine.execXorC s
  | .xorD => Sys2Proof.Machine.execXorD s
  | .xorE => Sys2Proof.Machine.execXorE s
  | .xorH => Sys2Proof.Machine.execXorH s
  | .xorL => Sys2Proof.Machine.execXorL s
  | .xorAtHl => Sys2Proof.Machine.execXorAtHl s
  | .xorA => Sys2Proof.Machine.execXorA s
  | .orB => Sys2Proof.Machine.execOrB s
  | .orC => Sys2Proof.Machine.execOrC s
  | .orD => Sys2Proof.Machine.execOrD s
  | .orE => Sys2Proof.Machine.execOrE s
  | .orH => Sys2Proof.Machine.execOrH s
  | .orL => Sys2Proof.Machine.execOrL s
  | .orAtHl => Sys2Proof.Machine.execOrAtHl s
  | .orA => Sys2Proof.Machine.execOrA s
  | .cpB => Sys2Proof.Machine.execCpB s
  | .cpC => Sys2Proof.Machine.execCpC s
  | .cpD => Sys2Proof.Machine.execCpD s
  | .cpE => Sys2Proof.Machine.execCpE s
  | .cpH => Sys2Proof.Machine.execCpH s
  | .cpL => Sys2Proof.Machine.execCpL s
  | .cpAtHl => Sys2Proof.Machine.execCpAtHl s
  | .cpA => Sys2Proof.Machine.execCpA s
  | .retNz => Sys2Proof.Machine.execRetNz s
  | .popBc => Sys2Proof.Machine.execPopBc s
  | .jpNzNn nn => Sys2Proof.Machine.execJpNzNn nn s
  | .jpNn nn => Sys2Proof.Machine.execJpNn nn s
  | .callNzNn nn => Sys2Proof.Machine.execCallNzNn nn s
  | .pushBc => Sys2Proof.Machine.execPushBc s
  | .addAN n => Sys2Proof.Machine.execAddAN n s
  | .rst00 => Sys2Proof.Machine.execRst00 s
  | .retZ => Sys2Proof.Machine.execRetZ s
  | .ret => Sys2Proof.Machine.execRet s
  | .jpZNn nn => Sys2Proof.Machine.execJpZNn nn s
  | .callZNn nn => Sys2Proof.Machine.execCallZNn nn s
  | .callNn nn => Sys2Proof.Machine.execCallNn nn s
  | .adcAN n => Sys2Proof.Machine.execAdcAN n s
  | .rst08 => Sys2Proof.Machine.execRst08 s
  | .retNc => Sys2Proof.Machine.execRetNc s
  | .popDe => Sys2Proof.Machine.execPopDe s
  | .jpNcNn nn => Sys2Proof.Machine.execJpNcNn nn s
  | .outAtNA n => Sys2Proof.Machine.execOutAtNA n s
  | .callNcNn nn => Sys2Proof.Machine.execCallNcNn nn s
  | .pushDe => Sys2Proof.Machine.execPushDe s
  | .subN n => Sys2Proof.Machine.execSubN n s
  | .rst10 => Sys2Proof.Machine.execRst10 s
  | .retC => Sys2Proof.Machine.execRetC s
  | .exx => Sys2Proof.Machine.execExx s
  | .jpCNn nn => Sys2Proof.Machine.execJpCNn nn s
  | .inAAtN n => Sys2Proof.Machine.execInAAtN n s
  | .callCNn nn => Sys2Proof.Machine.execCallCNn nn s
  | .sbcAN n => Sys2Proof.Machine.execSbcAN n s
  | .rst18 => Sys2Proof.Machine.execRst18 s
  | .retPo => Sys2Proof.Machine.execRetPo s
  | .popHl => Sys2Proof.Machine.execPopHl s
  | .jpPoNn nn => Sys2Proof.Machine.execJpPoNn nn s
  | .exAtSpHl => Sys2Proof.Machine.execExAtSpHl s
  | .callPoNn nn => Sys2Proof.Machine.execCallPoNn nn s
  | .pushHl => Sys2Proof.Machine.execPushHl s
  | .andN n => Sys2Proof.Machine.execAndN n s
  | .rst20 => Sys2Proof.Machine.execRst20 s
  | .retPe => Sys2Proof.Machine.execRetPe s
  | .jpAtHl => Sys2Proof.Machine.execJpAtHl s
  | .jpPeNn nn => Sys2Proof.Machine.execJpPeNn nn s
  | .exDeHl => Sys2Proof.Machine.execExDeHl s
  | .callPeNn nn => Sys2Proof.Machine.execCallPeNn nn s
  | .xorN n => Sys2Proof.Machine.execXorN n s
  | .rst28 => Sys2Proof.Machine.execRst28 s
  | .retP => Sys2Proof.Machine.execRetP s
  | .popAf => Sys2Proof.Machine.execPopAf s
  | .jpPNn nn => Sys2Proof.Machine.execJpPNn nn s
  | .di => Sys2Proof.Machine.execDi s
  | .callPNn nn => Sys2Proof.Machine.execCallPNn nn s
  | .pushAf => Sys2Proof.Machine.execPushAf s
  | .orN n => Sys2Proof.Machine.execOrN n s
  | .rst30 => Sys2Proof.Machine.execRst30 s
  | .retM => Sys2Proof.Machine.execRetM s
  | .ldSpHl => Sys2Proof.Machine.execLdSpHl s
  | .jpMNn nn => Sys2Proof.Machine.execJpMNn nn s
  | .ei => Sys2Proof.Machine.execEi s
  | .callMNn nn => Sys2Proof.Machine.execCallMNn nn s
  | .cpN n => Sys2Proof.Machine.execCpN n s
  | .rst38 => Sys2Proof.Machine.execRst38 s
  | .rlcB => Sys2Proof.Machine.execRlcB s
  | .rlcC => Sys2Proof.Machine.execRlcC s
  | .rlcD => Sys2Proof.Machine.execRlcD s
  | .rlcE => Sys2Proof.Machine.execRlcE s
  | .rlcH => Sys2Proof.Machine.execRlcH s
  | .rlcL => Sys2Proof.Machine.execRlcL s
  | .rlcAtHl => Sys2Proof.Machine.execRlcAtHl s
  | .rlcA => Sys2Proof.Machine.execRlcA s
  | .rrcB => Sys2Proof.Machine.execRrcB s
  | .rrcC => Sys2Proof.Machine.execRrcC s
  | .rrcD => Sys2Proof.Machine.execRrcD s
  | .rrcE => Sys2Proof.Machine.execRrcE s
  | .rrcH => Sys2Proof.Machine.execRrcH s
  | .rrcL => Sys2Proof.Machine.execRrcL s
  | .rrcAtHl => Sys2Proof.Machine.execRrcAtHl s
  | .rrcA => Sys2Proof.Machine.execRrcA s
  | .rlB => Sys2Proof.Machine.execRlB s
  | .rlC => Sys2Proof.Machine.execRlC s
  | .rlD => Sys2Proof.Machine.execRlD s
  | .rlE => Sys2Proof.Machine.execRlE s
  | .rlH => Sys2Proof.Machine.execRlH s
  | .rlL => Sys2Proof.Machine.execRlL s
  | .rlAtHl => Sys2Proof.Machine.execRlAtHl s
  | .rlA => Sys2Proof.Machine.execRlA s
  | .rrB => Sys2Proof.Machine.execRrB s
  | .rrC => Sys2Proof.Machine.execRrC s
  | .rrD => Sys2Proof.Machine.execRrD s
  | .rrE => Sys2Proof.Machine.execRrE s
  | .rrH => Sys2Proof.Machine.execRrH s
  | .rrL => Sys2Proof.Machine.execRrL s
  | .rrAtHl => Sys2Proof.Machine.execRrAtHl s
  | .rrA => Sys2Proof.Machine.execRrA s
  | .slaB => Sys2Proof.Machine.execSlaB s
  | .slaC => Sys2Proof.Machine.execSlaC s
  | .slaD => Sys2Proof.Machine.execSlaD s
  | .slaE => Sys2Proof.Machine.execSlaE s
  | .slaH => Sys2Proof.Machine.execSlaH s
  | .slaL => Sys2Proof.Machine.execSlaL s
  | .slaAtHl => Sys2Proof.Machine.execSlaAtHl s
  | .slaA => Sys2Proof.Machine.execSlaA s
  | .sraB => Sys2Proof.Machine.execSraB s
  | .sraC => Sys2Proof.Machine.execSraC s
  | .sraD => Sys2Proof.Machine.execSraD s
  | .sraE => Sys2Proof.Machine.execSraE s
  | .sraH => Sys2Proof.Machine.execSraH s
  | .sraL => Sys2Proof.Machine.execSraL s
  | .sraAtHl => Sys2Proof.Machine.execSraAtHl s
  | .sraA => Sys2Proof.Machine.execSraA s
  | .sllB => Sys2Proof.Machine.execSllB s
  | .sllC => Sys2Proof.Machine.execSllC s
  | .sllD => Sys2Proof.Machine.execSllD s
  | .sllE => Sys2Proof.Machine.execSllE s
  | .sllH => Sys2Proof.Machine.execSllH s
  | .sllL => Sys2Proof.Machine.execSllL s
  | .sllAtHl => Sys2Proof.Machine.execSllAtHl s
  | .sllA => Sys2Proof.Machine.execSllA s
  | .srlB => Sys2Proof.Machine.execSrlB s
  | .srlC => Sys2Proof.Machine.execSrlC s
  | .srlD => Sys2Proof.Machine.execSrlD s
  | .srlE => Sys2Proof.Machine.execSrlE s
  | .srlH => Sys2Proof.Machine.execSrlH s
  | .srlL => Sys2Proof.Machine.execSrlL s
  | .srlAtHl => Sys2Proof.Machine.execSrlAtHl s
  | .srlA => Sys2Proof.Machine.execSrlA s
  | .bit0B => Sys2Proof.Machine.execBit0B s
  | .bit0C => Sys2Proof.Machine.execBit0C s
  | .bit0D => Sys2Proof.Machine.execBit0D s
  | .bit0E => Sys2Proof.Machine.execBit0E s
  | .bit0H => Sys2Proof.Machine.execBit0H s
  | .bit0L => Sys2Proof.Machine.execBit0L s
  | .bit0AtHl => Sys2Proof.Machine.execBit0AtHl s
  | .bit0A => Sys2Proof.Machine.execBit0A s
  | .bit1B => Sys2Proof.Machine.execBit1B s
  | .bit1C => Sys2Proof.Machine.execBit1C s
  | .bit1D => Sys2Proof.Machine.execBit1D s
  | .bit1E => Sys2Proof.Machine.execBit1E s
  | .bit1H => Sys2Proof.Machine.execBit1H s
  | .bit1L => Sys2Proof.Machine.execBit1L s
  | .bit1AtHl => Sys2Proof.Machine.execBit1AtHl s
  | .bit1A => Sys2Proof.Machine.execBit1A s
  | .bit2B => Sys2Proof.Machine.execBit2B s
  | .bit2C => Sys2Proof.Machine.execBit2C s
  | .bit2D => Sys2Proof.Machine.execBit2D s
  | .bit2E => Sys2Proof.Machine.execBit2E s
  | .bit2H => Sys2Proof.Machine.execBit2H s
  | .bit2L => Sys2Proof.Machine.execBit2L s
  | .bit2AtHl => Sys2Proof.Machine.execBit2AtHl s
  | .bit2A => Sys2Proof.Machine.execBit2A s
  | .bit3B => Sys2Proof.Machine.execBit3B s
  | .bit3C => Sys2Proof.Machine.execBit3C s
  | .bit3D => Sys2Proof.Machine.execBit3D s
  | .bit3E => Sys2Proof.Machine.execBit3E s
  | .bit3H => Sys2Proof.Machine.execBit3H s
  | .bit3L => Sys2Proof.Machine.execBit3L s
  | .bit3AtHl => Sys2Proof.Machine.execBit3AtHl s
  | .bit3A => Sys2Proof.Machine.execBit3A s
  | .bit4B => Sys2Proof.Machine.execBit4B s
  | .bit4C => Sys2Proof.Machine.execBit4C s
  | .bit4D => Sys2Proof.Machine.execBit4D s
  | .bit4E => Sys2Proof.Machine.execBit4E s
  | .bit4H => Sys2Proof.Machine.execBit4H s
  | .bit4L => Sys2Proof.Machine.execBit4L s
  | .bit4AtHl => Sys2Proof.Machine.execBit4AtHl s
  | .bit4A => Sys2Proof.Machine.execBit4A s
  | .bit5B => Sys2Proof.Machine.execBit5B s
  | .bit5C => Sys2Proof.Machine.execBit5C s
  | .bit5D => Sys2Proof.Machine.execBit5D s
  | .bit5E => Sys2Proof.Machine.execBit5E s
  | .bit5H => Sys2Proof.Machine.execBit5H s
  | .bit5L => Sys2Proof.Machine.execBit5L s
  | .bit5AtHl => Sys2Proof.Machine.execBit5AtHl s
  | .bit5A => Sys2Proof.Machine.execBit5A s
  | .bit6B => Sys2Proof.Machine.execBit6B s
  | .bit6C => Sys2Proof.Machine.execBit6C s
  | .bit6D => Sys2Proof.Machine.execBit6D s
  | .bit6E => Sys2Proof.Machine.execBit6E s
  | .bit6H => Sys2Proof.Machine.execBit6H s
  | .bit6L => Sys2Proof.Machine.execBit6L s
  | .bit6AtHl => Sys2Proof.Machine.execBit6AtHl s
  | .bit6A => Sys2Proof.Machine.execBit6A s
  | .bit7B => Sys2Proof.Machine.execBit7B s
  | .bit7C => Sys2Proof.Machine.execBit7C s
  | .bit7D => Sys2Proof.Machine.execBit7D s
  | .bit7E => Sys2Proof.Machine.execBit7E s
  | .bit7H => Sys2Proof.Machine.execBit7H s
  | .bit7L => Sys2Proof.Machine.execBit7L s
  | .bit7AtHl => Sys2Proof.Machine.execBit7AtHl s
  | .bit7A => Sys2Proof.Machine.execBit7A s
  | .res0B => Sys2Proof.Machine.execRes0B s
  | .res0C => Sys2Proof.Machine.execRes0C s
  | .res0D => Sys2Proof.Machine.execRes0D s
  | .res0E => Sys2Proof.Machine.execRes0E s
  | .res0H => Sys2Proof.Machine.execRes0H s
  | .res0L => Sys2Proof.Machine.execRes0L s
  | .res0AtHl => Sys2Proof.Machine.execRes0AtHl s
  | .res0A => Sys2Proof.Machine.execRes0A s
  | .res1B => Sys2Proof.Machine.execRes1B s
  | .res1C => Sys2Proof.Machine.execRes1C s
  | .res1D => Sys2Proof.Machine.execRes1D s
  | .res1E => Sys2Proof.Machine.execRes1E s
  | .res1H => Sys2Proof.Machine.execRes1H s
  | .res1L => Sys2Proof.Machine.execRes1L s
  | .res1AtHl => Sys2Proof.Machine.execRes1AtHl s
  | .res1A => Sys2Proof.Machine.execRes1A s
  | .res2B => Sys2Proof.Machine.execRes2B s
  | .res2C => Sys2Proof.Machine.execRes2C s
  | .res2D => Sys2Proof.Machine.execRes2D s
  | .res2E => Sys2Proof.Machine.execRes2E s
  | .res2H => Sys2Proof.Machine.execRes2H s
  | .res2L => Sys2Proof.Machine.execRes2L s
  | .res2AtHl => Sys2Proof.Machine.execRes2AtHl s
  | .res2A => Sys2Proof.Machine.execRes2A s
  | .res3B => Sys2Proof.Machine.execRes3B s
  | .res3C => Sys2Proof.Machine.execRes3C s
  | .res3D => Sys2Proof.Machine.execRes3D s
  | .res3E => Sys2Proof.Machine.execRes3E s
  | .res3H => Sys2Proof.Machine.execRes3H s
  | .res3L => Sys2Proof.Machine.execRes3L s
  | .res3AtHl => Sys2Proof.Machine.execRes3AtHl s
  | .res3A => Sys2Proof.Machine.execRes3A s
  | .res4B => Sys2Proof.Machine.execRes4B s
  | .res4C => Sys2Proof.Machine.execRes4C s
  | .res4D => Sys2Proof.Machine.execRes4D s
  | .res4E => Sys2Proof.Machine.execRes4E s
  | .res4H => Sys2Proof.Machine.execRes4H s
  | .res4L => Sys2Proof.Machine.execRes4L s
  | .res4AtHl => Sys2Proof.Machine.execRes4AtHl s
  | .res4A => Sys2Proof.Machine.execRes4A s
  | .res5B => Sys2Proof.Machine.execRes5B s
  | .res5C => Sys2Proof.Machine.execRes5C s
  | .res5D => Sys2Proof.Machine.execRes5D s
  | .res5E => Sys2Proof.Machine.execRes5E s
  | .res5H => Sys2Proof.Machine.execRes5H s
  | .res5L => Sys2Proof.Machine.execRes5L s
  | .res5AtHl => Sys2Proof.Machine.execRes5AtHl s
  | .res5A => Sys2Proof.Machine.execRes5A s
  | .res6B => Sys2Proof.Machine.execRes6B s
  | .res6C => Sys2Proof.Machine.execRes6C s
  | .res6D => Sys2Proof.Machine.execRes6D s
  | .res6E => Sys2Proof.Machine.execRes6E s
  | .res6H => Sys2Proof.Machine.execRes6H s
  | .res6L => Sys2Proof.Machine.execRes6L s
  | .res6AtHl => Sys2Proof.Machine.execRes6AtHl s
  | .res6A => Sys2Proof.Machine.execRes6A s
  | .res7B => Sys2Proof.Machine.execRes7B s
  | .res7C => Sys2Proof.Machine.execRes7C s
  | .res7D => Sys2Proof.Machine.execRes7D s
  | .res7E => Sys2Proof.Machine.execRes7E s
  | .res7H => Sys2Proof.Machine.execRes7H s
  | .res7L => Sys2Proof.Machine.execRes7L s
  | .res7AtHl => Sys2Proof.Machine.execRes7AtHl s
  | .res7A => Sys2Proof.Machine.execRes7A s
  | .set0B => Sys2Proof.Machine.execSet0B s
  | .set0C => Sys2Proof.Machine.execSet0C s
  | .set0D => Sys2Proof.Machine.execSet0D s
  | .set0E => Sys2Proof.Machine.execSet0E s
  | .set0H => Sys2Proof.Machine.execSet0H s
  | .set0L => Sys2Proof.Machine.execSet0L s
  | .set0AtHl => Sys2Proof.Machine.execSet0AtHl s
  | .set0A => Sys2Proof.Machine.execSet0A s
  | .set1B => Sys2Proof.Machine.execSet1B s
  | .set1C => Sys2Proof.Machine.execSet1C s
  | .set1D => Sys2Proof.Machine.execSet1D s
  | .set1E => Sys2Proof.Machine.execSet1E s
  | .set1H => Sys2Proof.Machine.execSet1H s
  | .set1L => Sys2Proof.Machine.execSet1L s
  | .set1AtHl => Sys2Proof.Machine.execSet1AtHl s
  | .set1A => Sys2Proof.Machine.execSet1A s
  | .set2B => Sys2Proof.Machine.execSet2B s
  | .set2C => Sys2Proof.Machine.execSet2C s
  | .set2D => Sys2Proof.Machine.execSet2D s
  | .set2E => Sys2Proof.Machine.execSet2E s
  | .set2H => Sys2Proof.Machine.execSet2H s
  | .set2L => Sys2Proof.Machine.execSet2L s
  | .set2AtHl => Sys2Proof.Machine.execSet2AtHl s
  | .set2A => Sys2Proof.Machine.execSet2A s
  | .set3B => Sys2Proof.Machine.execSet3B s
  | .set3C => Sys2Proof.Machine.execSet3C s
  | .set3D => Sys2Proof.Machine.execSet3D s
  | .set3E => Sys2Proof.Machine.execSet3E s
  | .set3H => Sys2Proof.Machine.execSet3H s
  | .set3L => Sys2Proof.Machine.execSet3L s
  | .set3AtHl => Sys2Proof.Machine.execSet3AtHl s
  | .set3A => Sys2Proof.Machine.execSet3A s
  | .set4B => Sys2Proof.Machine.execSet4B s
  | .set4C => Sys2Proof.Machine.execSet4C s
  | .set4D => Sys2Proof.Machine.execSet4D s
  | .set4E => Sys2Proof.Machine.execSet4E s
  | .set4H => Sys2Proof.Machine.execSet4H s
  | .set4L => Sys2Proof.Machine.execSet4L s
  | .set4AtHl => Sys2Proof.Machine.execSet4AtHl s
  | .set4A => Sys2Proof.Machine.execSet4A s
  | .set5B => Sys2Proof.Machine.execSet5B s
  | .set5C => Sys2Proof.Machine.execSet5C s
  | .set5D => Sys2Proof.Machine.execSet5D s
  | .set5E => Sys2Proof.Machine.execSet5E s
  | .set5H => Sys2Proof.Machine.execSet5H s
  | .set5L => Sys2Proof.Machine.execSet5L s
  | .set5AtHl => Sys2Proof.Machine.execSet5AtHl s
  | .set5A => Sys2Proof.Machine.execSet5A s
  | .set6B => Sys2Proof.Machine.execSet6B s
  | .set6C => Sys2Proof.Machine.execSet6C s
  | .set6D => Sys2Proof.Machine.execSet6D s
  | .set6E => Sys2Proof.Machine.execSet6E s
  | .set6H => Sys2Proof.Machine.execSet6H s
  | .set6L => Sys2Proof.Machine.execSet6L s
  | .set6AtHl => Sys2Proof.Machine.execSet6AtHl s
  | .set6A => Sys2Proof.Machine.execSet6A s
  | .set7B => Sys2Proof.Machine.execSet7B s
  | .set7C => Sys2Proof.Machine.execSet7C s
  | .set7D => Sys2Proof.Machine.execSet7D s
  | .set7E => Sys2Proof.Machine.execSet7E s
  | .set7H => Sys2Proof.Machine.execSet7H s
  | .set7L => Sys2Proof.Machine.execSet7L s
  | .set7AtHl => Sys2Proof.Machine.execSet7AtHl s
  | .set7A => Sys2Proof.Machine.execSet7A s
  | .nopStar op => Sys2Proof.Machine.execNopStar op s
  | .inBAtC => Sys2Proof.Machine.execInBAtC s
  | .outAtCB => Sys2Proof.Machine.execOutAtCB s
  | .sbcHlBc => Sys2Proof.Machine.execSbcHlBc s
  | .ldAtNnBc nn => Sys2Proof.Machine.execLdAtNnBc nn s
  | .neg y => Sys2Proof.Machine.execNeg y s
  | .retn y => Sys2Proof.Machine.execRetn y s
  | .im0 y => Sys2Proof.Machine.execIm0 y s
  | .ldIA => Sys2Proof.Machine.execLdIA s
  | .inCAtC => Sys2Proof.Machine.execInCAtC s
  | .outAtCC => Sys2Proof.Machine.execOutAtCC s
  | .adcHlBc => Sys2Proof.Machine.execAdcHlBc s
  | .ldBcAtNn nn => Sys2Proof.Machine.execLdBcAtNn nn s
  | .reti => Sys2Proof.Machine.execReti s
  | .ldRA => Sys2Proof.Machine.execLdRA s
  | .inDAtC => Sys2Proof.Machine.execInDAtC s
  | .outAtCD => Sys2Proof.Machine.execOutAtCD s
  | .sbcHlDe => Sys2Proof.Machine.execSbcHlDe s
  | .ldAtNnDe nn => Sys2Proof.Machine.execLdAtNnDe nn s
  | .im1 y => Sys2Proof.Machine.execIm1 y s
  | .ldAI => Sys2Proof.Machine.execLdAI s
  | .inEAtC => Sys2Proof.Machine.execInEAtC s
  | .outAtCE => Sys2Proof.Machine.execOutAtCE s
  | .adcHlDe => Sys2Proof.Machine.execAdcHlDe s
  | .ldDeAtNn nn => Sys2Proof.Machine.execLdDeAtNn nn s
  | .im2 y => Sys2Proof.Machine.execIm2 y s
  | .ldAR => Sys2Proof.Machine.execLdAR s
  | .inHAtC => Sys2Proof.Machine.execInHAtC s
  | .outAtCH => Sys2Proof.Machine.execOutAtCH s
  | .sbcHlHl => Sys2Proof.Machine.execSbcHlHl s
  | .ldAtNnHlEd nn => Sys2Proof.Machine.execLdAtNnHlEd nn s
  | .rrd => Sys2Proof.Machine.execRrd s
  | .inLAtC => Sys2Proof.Machine.execInLAtC s
  | .outAtCL => Sys2Proof.Machine.execOutAtCL s
  | .adcHlHl => Sys2Proof.Machine.execAdcHlHl s
  | .ldHlAtNnEd nn => Sys2Proof.Machine.execLdHlAtNnEd nn s
  | .rld => Sys2Proof.Machine.execRld s
  | .inFAtC => Sys2Proof.Machine.execInFAtC s
  | .outAtC0 => Sys2Proof.Machine.execOutAtC0 s
  | .sbcHlSp => Sys2Proof.Machine.execSbcHlSp s
  | .ldAtNnSp nn => Sys2Proof.Machine.execLdAtNnSp nn s
  | .inAAtC => Sys2Proof.Machine.execInAAtC s
  | .outAtCA => Sys2Proof.Machine.execOutAtCA s
  | .adcHlSp => Sys2Proof.Machine.execAdcHlSp s
  | .ldSpAtNn nn => Sys2Proof.Machine.execLdSpAtNn nn s
  | .ldi => Sys2Proof.Machine.execLdi s
  | .cpi => Sys2Proof.Machine.execCpi s
  | .ini => Sys2Proof.Machine.execIni s
  | .outi => Sys2Proof.Machine.execOuti s
  | .ldd => Sys2Proof.Machine.execLdd s
  | .cpd => Sys2Proof.Machine.execCpd s
  | .ind => Sys2Proof.Machine.execInd s
  | .outd => Sys2Proof.Machine.execOutd s
  | .ldir => Sys2Proof.Machine.execLdir s
  | .cpir => Sys2Proof.Machine.execCpir s
  | .inir => Sys2Proof.Machine.execInir s
  | .otir => Sys2Proof.Machine.execOtir s
  | .lddr => Sys2Proof.Machine.execLddr s
  | .cpdr => Sys2Proof.Machine.execCpdr s
  | .indr => Sys2Proof.Machine.execIndr s
  | .otdr => Sys2Proof.Machine.execOtdr s
  | .ignoredNop ii => Sys2Proof.Machine.execIgnoredNop ii s
  | .ignoredLdBcNn ii nn => Sys2Proof.Machine.execIgnoredLdBcNn ii nn s
  | .ignoredLdAtBcA ii => Sys2Proof.Machine.execIgnoredLdAtBcA ii s
  | .ignoredIncBc ii => Sys2Proof.Machine.execIgnoredIncBc ii s
  | .ignoredIncB ii => Sys2Proof.Machine.execIgnoredIncB ii s
  | .ignoredDecB ii => Sys2Proof.Machine.execIgnoredDecB ii s
  | .ignoredLdBN ii n => Sys2Proof.Machine.execIgnoredLdBN ii n s
  | .ignoredRlca ii => Sys2Proof.Machine.execIgnoredRlca ii s
  | .ignoredExAfAf ii => Sys2Proof.Machine.execIgnoredExAfAf ii s
  | .addIdxBc ii => Sys2Proof.Machine.execAddIdxBc ii s
  | .ignoredLdAAtBc ii => Sys2Proof.Machine.execIgnoredLdAAtBc ii s
  | .ignoredDecBc ii => Sys2Proof.Machine.execIgnoredDecBc ii s
  | .ignoredIncC ii => Sys2Proof.Machine.execIgnoredIncC ii s
  | .ignoredDecC ii => Sys2Proof.Machine.execIgnoredDecC ii s
  | .ignoredLdCN ii n => Sys2Proof.Machine.execIgnoredLdCN ii n s
  | .ignoredRrca ii => Sys2Proof.Machine.execIgnoredRrca ii s
  | .ignoredDjnzE ii e => Sys2Proof.Machine.execIgnoredDjnzE ii e s
  | .ignoredLdDeNn ii nn => Sys2Proof.Machine.execIgnoredLdDeNn ii nn s
  | .ignoredLdAtDeA ii => Sys2Proof.Machine.execIgnoredLdAtDeA ii s
  | .ignoredIncDe ii => Sys2Proof.Machine.execIgnoredIncDe ii s
  | .ignoredIncD ii => Sys2Proof.Machine.execIgnoredIncD ii s
  | .ignoredDecD ii => Sys2Proof.Machine.execIgnoredDecD ii s
  | .ignoredLdDN ii n => Sys2Proof.Machine.execIgnoredLdDN ii n s
  | .ignoredRla ii => Sys2Proof.Machine.execIgnoredRla ii s
  | .ignoredJrE ii e => Sys2Proof.Machine.execIgnoredJrE ii e s
  | .addIdxDe ii => Sys2Proof.Machine.execAddIdxDe ii s
  | .ignoredLdAAtDe ii => Sys2Proof.Machine.execIgnoredLdAAtDe ii s
  | .ignoredDecDe ii => Sys2Proof.Machine.execIgnoredDecDe ii s
  | .ignoredIncE ii => Sys2Proof.Machine.execIgnoredIncE ii s
  | .ignoredDecE ii => Sys2Proof.Machine.execIgnoredDecE ii s
  | .ignoredLdEN ii n => Sys2Proof.Machine.execIgnoredLdEN ii n s
  | .ignoredRra ii => Sys2Proof.Machine.execIgnoredRra ii s
  | .ignoredJrNzE ii e => Sys2Proof.Machine.execIgnoredJrNzE ii e s
  | .ldIdxNn ii nn => Sys2Proof.Machine.execLdIdxNn ii nn s
  | .ldAtNnIdx ii nn => Sys2Proof.Machine.execLdAtNnIdx ii nn s
  | .incIdx ii => Sys2Proof.Machine.execIncIdx ii s
  | .incIdxH ii => Sys2Proof.Machine.execIncIdxH ii s
  | .decIdxH ii => Sys2Proof.Machine.execDecIdxH ii s
  | .ldIdxHN ii n => Sys2Proof.Machine.execLdIdxHN ii n s
  | .ignoredDaa ii => Sys2Proof.Machine.execIgnoredDaa ii s
  | .ignoredJrZE ii e => Sys2Proof.Machine.execIgnoredJrZE ii e s
  | .addIdxIdx ii => Sys2Proof.Machine.execAddIdxIdx ii s
  | .ldIdxAtNn ii nn => Sys2Proof.Machine.execLdIdxAtNn ii nn s
  | .decIdx ii => Sys2Proof.Machine.execDecIdx ii s
  | .incIdxL ii => Sys2Proof.Machine.execIncIdxL ii s
  | .decIdxL ii => Sys2Proof.Machine.execDecIdxL ii s
  | .ldIdxLN ii n => Sys2Proof.Machine.execLdIdxLN ii n s
  | .ignoredCpl ii => Sys2Proof.Machine.execIgnoredCpl ii s
  | .ignoredJrNcE ii e => Sys2Proof.Machine.execIgnoredJrNcE ii e s
  | .ignoredLdSpNn ii nn => Sys2Proof.Machine.execIgnoredLdSpNn ii nn s
  | .ignoredLdAtNnA ii nn => Sys2Proof.Machine.execIgnoredLdAtNnA ii nn s
  | .ignoredIncSp ii => Sys2Proof.Machine.execIgnoredIncSp ii s
  | .incAtIdx ii d => Sys2Proof.Machine.execIncAtIdx ii d s
  | .decAtIdx ii d => Sys2Proof.Machine.execDecAtIdx ii d s
  | .ldAtIdxN ii d n => Sys2Proof.Machine.execLdAtIdxN ii d n s
  | .ignoredScf ii => Sys2Proof.Machine.execIgnoredScf ii s
  | .ignoredJrCE ii e => Sys2Proof.Machine.execIgnoredJrCE ii e s
  | .addIdxSp ii => Sys2Proof.Machine.execAddIdxSp ii s
  | .ignoredLdAAtNn ii nn => Sys2Proof.Machine.execIgnoredLdAAtNn ii nn s
  | .ignoredDecSp ii => Sys2Proof.Machine.execIgnoredDecSp ii s
  | .ignoredIncA ii => Sys2Proof.Machine.execIgnoredIncA ii s
  | .ignoredDecA ii => Sys2Proof.Machine.execIgnoredDecA ii s
  | .ignoredLdAN ii n => Sys2Proof.Machine.execIgnoredLdAN ii n s
  | .ignoredCcf ii => Sys2Proof.Machine.execIgnoredCcf ii s
  | .ignoredLdBB ii => Sys2Proof.Machine.execIgnoredLdBB ii s
  | .ignoredLdBC ii => Sys2Proof.Machine.execIgnoredLdBC ii s
  | .ignoredLdBD ii => Sys2Proof.Machine.execIgnoredLdBD ii s
  | .ignoredLdBE ii => Sys2Proof.Machine.execIgnoredLdBE ii s
  | .ldBIdxH ii => Sys2Proof.Machine.execLdBIdxH ii s
  | .ldBIdxL ii => Sys2Proof.Machine.execLdBIdxL ii s
  | .ldBAtIdx ii d => Sys2Proof.Machine.execLdBAtIdx ii d s
  | .ignoredLdBA ii => Sys2Proof.Machine.execIgnoredLdBA ii s
  | .ignoredLdCB ii => Sys2Proof.Machine.execIgnoredLdCB ii s
  | .ignoredLdCC ii => Sys2Proof.Machine.execIgnoredLdCC ii s
  | .ignoredLdCD ii => Sys2Proof.Machine.execIgnoredLdCD ii s
  | .ignoredLdCE ii => Sys2Proof.Machine.execIgnoredLdCE ii s
  | .ldCIdxH ii => Sys2Proof.Machine.execLdCIdxH ii s
  | .ldCIdxL ii => Sys2Proof.Machine.execLdCIdxL ii s
  | .ldCAtIdx ii d => Sys2Proof.Machine.execLdCAtIdx ii d s
  | .ignoredLdCA ii => Sys2Proof.Machine.execIgnoredLdCA ii s
  | .ignoredLdDB ii => Sys2Proof.Machine.execIgnoredLdDB ii s
  | .ignoredLdDC ii => Sys2Proof.Machine.execIgnoredLdDC ii s
  | .ignoredLdDD ii => Sys2Proof.Machine.execIgnoredLdDD ii s
  | .ignoredLdDE ii => Sys2Proof.Machine.execIgnoredLdDE ii s
  | .ldDIdxH ii => Sys2Proof.Machine.execLdDIdxH ii s
  | .ldDIdxL ii => Sys2Proof.Machine.execLdDIdxL ii s
  | .ldDAtIdx ii d => Sys2Proof.Machine.execLdDAtIdx ii d s
  | .ignoredLdDA ii => Sys2Proof.Machine.execIgnoredLdDA ii s
  | .ignoredLdEB ii => Sys2Proof.Machine.execIgnoredLdEB ii s
  | .ignoredLdEC ii => Sys2Proof.Machine.execIgnoredLdEC ii s
  | .ignoredLdED ii => Sys2Proof.Machine.execIgnoredLdED ii s
  | .ignoredLdEE ii => Sys2Proof.Machine.execIgnoredLdEE ii s
  | .ldEIdxH ii => Sys2Proof.Machine.execLdEIdxH ii s
  | .ldEIdxL ii => Sys2Proof.Machine.execLdEIdxL ii s
  | .ldEAtIdx ii d => Sys2Proof.Machine.execLdEAtIdx ii d s
  | .ignoredLdEA ii => Sys2Proof.Machine.execIgnoredLdEA ii s
  | .ldIdxHB ii => Sys2Proof.Machine.execLdIdxHB ii s
  | .ldIdxHC ii => Sys2Proof.Machine.execLdIdxHC ii s
  | .ldIdxHD ii => Sys2Proof.Machine.execLdIdxHD ii s
  | .ldIdxHE ii => Sys2Proof.Machine.execLdIdxHE ii s
  | .ldIdxHIdxH ii => Sys2Proof.Machine.execLdIdxHIdxH ii s
  | .ldIdxHIdxL ii => Sys2Proof.Machine.execLdIdxHIdxL ii s
  | .ldHAtIdx ii d => Sys2Proof.Machine.execLdHAtIdx ii d s
  | .ldIdxHA ii => Sys2Proof.Machine.execLdIdxHA ii s
  | .ldIdxLB ii => Sys2Proof.Machine.execLdIdxLB ii s
  | .ldIdxLC ii => Sys2Proof.Machine.execLdIdxLC ii s
  | .ldIdxLD ii => Sys2Proof.Machine.execLdIdxLD ii s
  | .ldIdxLE ii => Sys2Proof.Machine.execLdIdxLE ii s
  | .ldIdxLIdxH ii => Sys2Proof.Machine.execLdIdxLIdxH ii s
  | .ldIdxLIdxL ii => Sys2Proof.Machine.execLdIdxLIdxL ii s
  | .ldLAtIdx ii d => Sys2Proof.Machine.execLdLAtIdx ii d s
  | .ldIdxLA ii => Sys2Proof.Machine.execLdIdxLA ii s
  | .ldAtIdxB ii d => Sys2Proof.Machine.execLdAtIdxB ii d s
  | .ldAtIdxC ii d => Sys2Proof.Machine.execLdAtIdxC ii d s
  | .ldAtIdxD ii d => Sys2Proof.Machine.execLdAtIdxD ii d s
  | .ldAtIdxE ii d => Sys2Proof.Machine.execLdAtIdxE ii d s
  | .ldAtIdxH ii d => Sys2Proof.Machine.execLdAtIdxH ii d s
  | .ldAtIdxL ii d => Sys2Proof.Machine.execLdAtIdxL ii d s
  | .ignoredHalt ii => Sys2Proof.Machine.execIgnoredHalt ii s
  | .ldAtIdxA ii d => Sys2Proof.Machine.execLdAtIdxA ii d s
  | .ignoredLdAB ii => Sys2Proof.Machine.execIgnoredLdAB ii s
  | .ignoredLdAC ii => Sys2Proof.Machine.execIgnoredLdAC ii s
  | .ignoredLdAD ii => Sys2Proof.Machine.execIgnoredLdAD ii s
  | .ignoredLdAE ii => Sys2Proof.Machine.execIgnoredLdAE ii s
  | .ldAIdxH ii => Sys2Proof.Machine.execLdAIdxH ii s
  | .ldAIdxL ii => Sys2Proof.Machine.execLdAIdxL ii s
  | .ldAAtIdx ii d => Sys2Proof.Machine.execLdAAtIdx ii d s
  | .ignoredLdAA ii => Sys2Proof.Machine.execIgnoredLdAA ii s
  | .ignoredAddAB ii => Sys2Proof.Machine.execIgnoredAddAB ii s
  | .ignoredAddAC ii => Sys2Proof.Machine.execIgnoredAddAC ii s
  | .ignoredAddAD ii => Sys2Proof.Machine.execIgnoredAddAD ii s
  | .ignoredAddAE ii => Sys2Proof.Machine.execIgnoredAddAE ii s
  | .addAIdxH ii => Sys2Proof.Machine.execAddAIdxH ii s
  | .addAIdxL ii => Sys2Proof.Machine.execAddAIdxL ii s
  | .addAAtIdx ii d => Sys2Proof.Machine.execAddAAtIdx ii d s
  | .ignoredAddAA ii => Sys2Proof.Machine.execIgnoredAddAA ii s
  | .ignoredAdcAB ii => Sys2Proof.Machine.execIgnoredAdcAB ii s
  | .ignoredAdcAC ii => Sys2Proof.Machine.execIgnoredAdcAC ii s
  | .ignoredAdcAD ii => Sys2Proof.Machine.execIgnoredAdcAD ii s
  | .ignoredAdcAE ii => Sys2Proof.Machine.execIgnoredAdcAE ii s
  | .adcAIdxH ii => Sys2Proof.Machine.execAdcAIdxH ii s
  | .adcAIdxL ii => Sys2Proof.Machine.execAdcAIdxL ii s
  | .adcAAtIdx ii d => Sys2Proof.Machine.execAdcAAtIdx ii d s
  | .ignoredAdcAA ii => Sys2Proof.Machine.execIgnoredAdcAA ii s
  | .ignoredSubB ii => Sys2Proof.Machine.execIgnoredSubB ii s
  | .ignoredSubC ii => Sys2Proof.Machine.execIgnoredSubC ii s
  | .ignoredSubD ii => Sys2Proof.Machine.execIgnoredSubD ii s
  | .ignoredSubE ii => Sys2Proof.Machine.execIgnoredSubE ii s
  | .subIdxH ii => Sys2Proof.Machine.execSubIdxH ii s
  | .subIdxL ii => Sys2Proof.Machine.execSubIdxL ii s
  | .subAtIdx ii d => Sys2Proof.Machine.execSubAtIdx ii d s
  | .ignoredSubA ii => Sys2Proof.Machine.execIgnoredSubA ii s
  | .ignoredSbcAB ii => Sys2Proof.Machine.execIgnoredSbcAB ii s
  | .ignoredSbcAC ii => Sys2Proof.Machine.execIgnoredSbcAC ii s
  | .ignoredSbcAD ii => Sys2Proof.Machine.execIgnoredSbcAD ii s
  | .ignoredSbcAE ii => Sys2Proof.Machine.execIgnoredSbcAE ii s
  | .sbcAIdxH ii => Sys2Proof.Machine.execSbcAIdxH ii s
  | .sbcAIdxL ii => Sys2Proof.Machine.execSbcAIdxL ii s
  | .sbcAAtIdx ii d => Sys2Proof.Machine.execSbcAAtIdx ii d s
  | .ignoredSbcAA ii => Sys2Proof.Machine.execIgnoredSbcAA ii s
  | .ignoredAndB ii => Sys2Proof.Machine.execIgnoredAndB ii s
  | .ignoredAndC ii => Sys2Proof.Machine.execIgnoredAndC ii s
  | .ignoredAndD ii => Sys2Proof.Machine.execIgnoredAndD ii s
  | .ignoredAndE ii => Sys2Proof.Machine.execIgnoredAndE ii s
  | .andIdxH ii => Sys2Proof.Machine.execAndIdxH ii s
  | .andIdxL ii => Sys2Proof.Machine.execAndIdxL ii s
  | .andAtIdx ii d => Sys2Proof.Machine.execAndAtIdx ii d s
  | .ignoredAndA ii => Sys2Proof.Machine.execIgnoredAndA ii s
  | .ignoredXorB ii => Sys2Proof.Machine.execIgnoredXorB ii s
  | .ignoredXorC ii => Sys2Proof.Machine.execIgnoredXorC ii s
  | .ignoredXorD ii => Sys2Proof.Machine.execIgnoredXorD ii s
  | .ignoredXorE ii => Sys2Proof.Machine.execIgnoredXorE ii s
  | .xorIdxH ii => Sys2Proof.Machine.execXorIdxH ii s
  | .xorIdxL ii => Sys2Proof.Machine.execXorIdxL ii s
  | .xorAtIdx ii d => Sys2Proof.Machine.execXorAtIdx ii d s
  | .ignoredXorA ii => Sys2Proof.Machine.execIgnoredXorA ii s
  | .ignoredOrB ii => Sys2Proof.Machine.execIgnoredOrB ii s
  | .ignoredOrC ii => Sys2Proof.Machine.execIgnoredOrC ii s
  | .ignoredOrD ii => Sys2Proof.Machine.execIgnoredOrD ii s
  | .ignoredOrE ii => Sys2Proof.Machine.execIgnoredOrE ii s
  | .orIdxH ii => Sys2Proof.Machine.execOrIdxH ii s
  | .orIdxL ii => Sys2Proof.Machine.execOrIdxL ii s
  | .orAtIdx ii d => Sys2Proof.Machine.execOrAtIdx ii d s
  | .ignoredOrA ii => Sys2Proof.Machine.execIgnoredOrA ii s
  | .ignoredCpB ii => Sys2Proof.Machine.execIgnoredCpB ii s
  | .ignoredCpC ii => Sys2Proof.Machine.execIgnoredCpC ii s
  | .ignoredCpD ii => Sys2Proof.Machine.execIgnoredCpD ii s
  | .ignoredCpE ii => Sys2Proof.Machine.execIgnoredCpE ii s
  | .cpIdxH ii => Sys2Proof.Machine.execCpIdxH ii s
  | .cpIdxL ii => Sys2Proof.Machine.execCpIdxL ii s
  | .cpAtIdx ii d => Sys2Proof.Machine.execCpAtIdx ii d s
  | .ignoredCpA ii => Sys2Proof.Machine.execIgnoredCpA ii s
  | .ignoredRetNz ii => Sys2Proof.Machine.execIgnoredRetNz ii s
  | .ignoredPopBc ii => Sys2Proof.Machine.execIgnoredPopBc ii s
  | .ignoredJpNzNn ii nn => Sys2Proof.Machine.execIgnoredJpNzNn ii nn s
  | .ignoredJpNn ii nn => Sys2Proof.Machine.execIgnoredJpNn ii nn s
  | .ignoredCallNzNn ii nn => Sys2Proof.Machine.execIgnoredCallNzNn ii nn s
  | .ignoredPushBc ii => Sys2Proof.Machine.execIgnoredPushBc ii s
  | .ignoredAddAN ii n => Sys2Proof.Machine.execIgnoredAddAN ii n s
  | .ignoredRst00 ii => Sys2Proof.Machine.execIgnoredRst00 ii s
  | .ignoredRetZ ii => Sys2Proof.Machine.execIgnoredRetZ ii s
  | .ignoredRet ii => Sys2Proof.Machine.execIgnoredRet ii s
  | .ignoredJpZNn ii nn => Sys2Proof.Machine.execIgnoredJpZNn ii nn s
  | .ignoredCallZNn ii nn => Sys2Proof.Machine.execIgnoredCallZNn ii nn s
  | .ignoredCallNn ii nn => Sys2Proof.Machine.execIgnoredCallNn ii nn s
  | .ignoredAdcAN ii n => Sys2Proof.Machine.execIgnoredAdcAN ii n s
  | .ignoredRst08 ii => Sys2Proof.Machine.execIgnoredRst08 ii s
  | .ignoredRetNc ii => Sys2Proof.Machine.execIgnoredRetNc ii s
  | .ignoredPopDe ii => Sys2Proof.Machine.execIgnoredPopDe ii s
  | .ignoredJpNcNn ii nn => Sys2Proof.Machine.execIgnoredJpNcNn ii nn s
  | .ignoredOutAtNA ii n => Sys2Proof.Machine.execIgnoredOutAtNA ii n s
  | .ignoredCallNcNn ii nn => Sys2Proof.Machine.execIgnoredCallNcNn ii nn s
  | .ignoredPushDe ii => Sys2Proof.Machine.execIgnoredPushDe ii s
  | .ignoredSubN ii n => Sys2Proof.Machine.execIgnoredSubN ii n s
  | .ignoredRst10 ii => Sys2Proof.Machine.execIgnoredRst10 ii s
  | .ignoredRetC ii => Sys2Proof.Machine.execIgnoredRetC ii s
  | .ignoredExx ii => Sys2Proof.Machine.execIgnoredExx ii s
  | .ignoredJpCNn ii nn => Sys2Proof.Machine.execIgnoredJpCNn ii nn s
  | .ignoredInAAtN ii n => Sys2Proof.Machine.execIgnoredInAAtN ii n s
  | .ignoredCallCNn ii nn => Sys2Proof.Machine.execIgnoredCallCNn ii nn s
  | .redundantPrefix first second => Sys2Proof.Machine.execRedundantPrefix first second s
  | .ignoredSbcAN ii n => Sys2Proof.Machine.execIgnoredSbcAN ii n s
  | .ignoredRst18 ii => Sys2Proof.Machine.execIgnoredRst18 ii s
  | .ignoredRetPo ii => Sys2Proof.Machine.execIgnoredRetPo ii s
  | .popIdx ii => Sys2Proof.Machine.execPopIdx ii s
  | .ignoredJpPoNn ii nn => Sys2Proof.Machine.execIgnoredJpPoNn ii nn s
  | .exAtSpIdx ii => Sys2Proof.Machine.execExAtSpIdx ii s
  | .ignoredCallPoNn ii nn => Sys2Proof.Machine.execIgnoredCallPoNn ii nn s
  | .pushIdx ii => Sys2Proof.Machine.execPushIdx ii s
  | .ignoredAndN ii n => Sys2Proof.Machine.execIgnoredAndN ii n s
  | .ignoredRst20 ii => Sys2Proof.Machine.execIgnoredRst20 ii s
  | .ignoredRetPe ii => Sys2Proof.Machine.execIgnoredRetPe ii s
  | .jpAtIdx ii => Sys2Proof.Machine.execJpAtIdx ii s
  | .ignoredJpPeNn ii nn => Sys2Proof.Machine.execIgnoredJpPeNn ii nn s
  | .ignoredExDeHl ii => Sys2Proof.Machine.execIgnoredExDeHl ii s
  | .ignoredCallPeNn ii nn => Sys2Proof.Machine.execIgnoredCallPeNn ii nn s
  | .ignoredEd ii o => Sys2Proof.Machine.execIgnoredEd ii o s
  | .ignoredXorN ii n => Sys2Proof.Machine.execIgnoredXorN ii n s
  | .ignoredRst28 ii => Sys2Proof.Machine.execIgnoredRst28 ii s
  | .ignoredRetP ii => Sys2Proof.Machine.execIgnoredRetP ii s
  | .ignoredPopAf ii => Sys2Proof.Machine.execIgnoredPopAf ii s
  | .ignoredJpPNn ii nn => Sys2Proof.Machine.execIgnoredJpPNn ii nn s
  | .ignoredDi ii => Sys2Proof.Machine.execIgnoredDi ii s
  | .ignoredCallPNn ii nn => Sys2Proof.Machine.execIgnoredCallPNn ii nn s
  | .ignoredPushAf ii => Sys2Proof.Machine.execIgnoredPushAf ii s
  | .ignoredOrN ii n => Sys2Proof.Machine.execIgnoredOrN ii n s
  | .ignoredRst30 ii => Sys2Proof.Machine.execIgnoredRst30 ii s
  | .ignoredRetM ii => Sys2Proof.Machine.execIgnoredRetM ii s
  | .ldSpIdx ii => Sys2Proof.Machine.execLdSpIdx ii s
  | .ignoredJpMNn ii nn => Sys2Proof.Machine.execIgnoredJpMNn ii nn s
  | .ignoredEi ii => Sys2Proof.Machine.execIgnoredEi ii s
  | .ignoredCallMNn ii nn => Sys2Proof.Machine.execIgnoredCallMNn ii nn s
  | .ignoredCpN ii n => Sys2Proof.Machine.execIgnoredCpN ii n s
  | .ignoredRst38 ii => Sys2Proof.Machine.execIgnoredRst38 ii s
  | .rlcAtIdxB ii d => Sys2Proof.Machine.execRlcAtIdxB ii d s
  | .rlcAtIdxC ii d => Sys2Proof.Machine.execRlcAtIdxC ii d s
  | .rlcAtIdxD ii d => Sys2Proof.Machine.execRlcAtIdxD ii d s
  | .rlcAtIdxE ii d => Sys2Proof.Machine.execRlcAtIdxE ii d s
  | .rlcAtIdxH ii d => Sys2Proof.Machine.execRlcAtIdxH ii d s
  | .rlcAtIdxL ii d => Sys2Proof.Machine.execRlcAtIdxL ii d s
  | .rlcAtIdx ii d => Sys2Proof.Machine.execRlcAtIdx ii d s
  | .rlcAtIdxA ii d => Sys2Proof.Machine.execRlcAtIdxA ii d s
  | .rrcAtIdxB ii d => Sys2Proof.Machine.execRrcAtIdxB ii d s
  | .rrcAtIdxC ii d => Sys2Proof.Machine.execRrcAtIdxC ii d s
  | .rrcAtIdxD ii d => Sys2Proof.Machine.execRrcAtIdxD ii d s
  | .rrcAtIdxE ii d => Sys2Proof.Machine.execRrcAtIdxE ii d s
  | .rrcAtIdxH ii d => Sys2Proof.Machine.execRrcAtIdxH ii d s
  | .rrcAtIdxL ii d => Sys2Proof.Machine.execRrcAtIdxL ii d s
  | .rrcAtIdx ii d => Sys2Proof.Machine.execRrcAtIdx ii d s
  | .rrcAtIdxA ii d => Sys2Proof.Machine.execRrcAtIdxA ii d s
  | .rlAtIdxB ii d => Sys2Proof.Machine.execRlAtIdxB ii d s
  | .rlAtIdxC ii d => Sys2Proof.Machine.execRlAtIdxC ii d s
  | .rlAtIdxD ii d => Sys2Proof.Machine.execRlAtIdxD ii d s
  | .rlAtIdxE ii d => Sys2Proof.Machine.execRlAtIdxE ii d s
  | .rlAtIdxH ii d => Sys2Proof.Machine.execRlAtIdxH ii d s
  | .rlAtIdxL ii d => Sys2Proof.Machine.execRlAtIdxL ii d s
  | .rlAtIdx ii d => Sys2Proof.Machine.execRlAtIdx ii d s
  | .rlAtIdxA ii d => Sys2Proof.Machine.execRlAtIdxA ii d s
  | .rrAtIdxB ii d => Sys2Proof.Machine.execRrAtIdxB ii d s
  | .rrAtIdxC ii d => Sys2Proof.Machine.execRrAtIdxC ii d s
  | .rrAtIdxD ii d => Sys2Proof.Machine.execRrAtIdxD ii d s
  | .rrAtIdxE ii d => Sys2Proof.Machine.execRrAtIdxE ii d s
  | .rrAtIdxH ii d => Sys2Proof.Machine.execRrAtIdxH ii d s
  | .rrAtIdxL ii d => Sys2Proof.Machine.execRrAtIdxL ii d s
  | .rrAtIdx ii d => Sys2Proof.Machine.execRrAtIdx ii d s
  | .rrAtIdxA ii d => Sys2Proof.Machine.execRrAtIdxA ii d s
  | .slaAtIdxB ii d => Sys2Proof.Machine.execSlaAtIdxB ii d s
  | .slaAtIdxC ii d => Sys2Proof.Machine.execSlaAtIdxC ii d s
  | .slaAtIdxD ii d => Sys2Proof.Machine.execSlaAtIdxD ii d s
  | .slaAtIdxE ii d => Sys2Proof.Machine.execSlaAtIdxE ii d s
  | .slaAtIdxH ii d => Sys2Proof.Machine.execSlaAtIdxH ii d s
  | .slaAtIdxL ii d => Sys2Proof.Machine.execSlaAtIdxL ii d s
  | .slaAtIdx ii d => Sys2Proof.Machine.execSlaAtIdx ii d s
  | .slaAtIdxA ii d => Sys2Proof.Machine.execSlaAtIdxA ii d s
  | .sraAtIdxB ii d => Sys2Proof.Machine.execSraAtIdxB ii d s
  | .sraAtIdxC ii d => Sys2Proof.Machine.execSraAtIdxC ii d s
  | .sraAtIdxD ii d => Sys2Proof.Machine.execSraAtIdxD ii d s
  | .sraAtIdxE ii d => Sys2Proof.Machine.execSraAtIdxE ii d s
  | .sraAtIdxH ii d => Sys2Proof.Machine.execSraAtIdxH ii d s
  | .sraAtIdxL ii d => Sys2Proof.Machine.execSraAtIdxL ii d s
  | .sraAtIdx ii d => Sys2Proof.Machine.execSraAtIdx ii d s
  | .sraAtIdxA ii d => Sys2Proof.Machine.execSraAtIdxA ii d s
  | .sllAtIdxB ii d => Sys2Proof.Machine.execSllAtIdxB ii d s
  | .sllAtIdxC ii d => Sys2Proof.Machine.execSllAtIdxC ii d s
  | .sllAtIdxD ii d => Sys2Proof.Machine.execSllAtIdxD ii d s
  | .sllAtIdxE ii d => Sys2Proof.Machine.execSllAtIdxE ii d s
  | .sllAtIdxH ii d => Sys2Proof.Machine.execSllAtIdxH ii d s
  | .sllAtIdxL ii d => Sys2Proof.Machine.execSllAtIdxL ii d s
  | .sllAtIdx ii d => Sys2Proof.Machine.execSllAtIdx ii d s
  | .sllAtIdxA ii d => Sys2Proof.Machine.execSllAtIdxA ii d s
  | .srlAtIdxB ii d => Sys2Proof.Machine.execSrlAtIdxB ii d s
  | .srlAtIdxC ii d => Sys2Proof.Machine.execSrlAtIdxC ii d s
  | .srlAtIdxD ii d => Sys2Proof.Machine.execSrlAtIdxD ii d s
  | .srlAtIdxE ii d => Sys2Proof.Machine.execSrlAtIdxE ii d s
  | .srlAtIdxH ii d => Sys2Proof.Machine.execSrlAtIdxH ii d s
  | .srlAtIdxL ii d => Sys2Proof.Machine.execSrlAtIdxL ii d s
  | .srlAtIdx ii d => Sys2Proof.Machine.execSrlAtIdx ii d s
  | .srlAtIdxA ii d => Sys2Proof.Machine.execSrlAtIdxA ii d s
  | .bit0AtIdx ii d z => Sys2Proof.Machine.execBit0AtIdx ii d z s
  | .bit1AtIdx ii d z => Sys2Proof.Machine.execBit1AtIdx ii d z s
  | .bit2AtIdx ii d z => Sys2Proof.Machine.execBit2AtIdx ii d z s
  | .bit3AtIdx ii d z => Sys2Proof.Machine.execBit3AtIdx ii d z s
  | .bit4AtIdx ii d z => Sys2Proof.Machine.execBit4AtIdx ii d z s
  | .bit5AtIdx ii d z => Sys2Proof.Machine.execBit5AtIdx ii d z s
  | .bit6AtIdx ii d z => Sys2Proof.Machine.execBit6AtIdx ii d z s
  | .bit7AtIdx ii d z => Sys2Proof.Machine.execBit7AtIdx ii d z s
  | .res0AtIdxB ii d => Sys2Proof.Machine.execRes0AtIdxB ii d s
  | .res0AtIdxC ii d => Sys2Proof.Machine.execRes0AtIdxC ii d s
  | .res0AtIdxD ii d => Sys2Proof.Machine.execRes0AtIdxD ii d s
  | .res0AtIdxE ii d => Sys2Proof.Machine.execRes0AtIdxE ii d s
  | .res0AtIdxH ii d => Sys2Proof.Machine.execRes0AtIdxH ii d s
  | .res0AtIdxL ii d => Sys2Proof.Machine.execRes0AtIdxL ii d s
  | .res0AtIdx ii d => Sys2Proof.Machine.execRes0AtIdx ii d s
  | .res0AtIdxA ii d => Sys2Proof.Machine.execRes0AtIdxA ii d s
  | .res1AtIdxB ii d => Sys2Proof.Machine.execRes1AtIdxB ii d s
  | .res1AtIdxC ii d => Sys2Proof.Machine.execRes1AtIdxC ii d s
  | .res1AtIdxD ii d => Sys2Proof.Machine.execRes1AtIdxD ii d s
  | .res1AtIdxE ii d => Sys2Proof.Machine.execRes1AtIdxE ii d s
  | .res1AtIdxH ii d => Sys2Proof.Machine.execRes1AtIdxH ii d s
  | .res1AtIdxL ii d => Sys2Proof.Machine.execRes1AtIdxL ii d s
  | .res1AtIdx ii d => Sys2Proof.Machine.execRes1AtIdx ii d s
  | .res1AtIdxA ii d => Sys2Proof.Machine.execRes1AtIdxA ii d s
  | .res2AtIdxB ii d => Sys2Proof.Machine.execRes2AtIdxB ii d s
  | .res2AtIdxC ii d => Sys2Proof.Machine.execRes2AtIdxC ii d s
  | .res2AtIdxD ii d => Sys2Proof.Machine.execRes2AtIdxD ii d s
  | .res2AtIdxE ii d => Sys2Proof.Machine.execRes2AtIdxE ii d s
  | .res2AtIdxH ii d => Sys2Proof.Machine.execRes2AtIdxH ii d s
  | .res2AtIdxL ii d => Sys2Proof.Machine.execRes2AtIdxL ii d s
  | .res2AtIdx ii d => Sys2Proof.Machine.execRes2AtIdx ii d s
  | .res2AtIdxA ii d => Sys2Proof.Machine.execRes2AtIdxA ii d s
  | .res3AtIdxB ii d => Sys2Proof.Machine.execRes3AtIdxB ii d s
  | .res3AtIdxC ii d => Sys2Proof.Machine.execRes3AtIdxC ii d s
  | .res3AtIdxD ii d => Sys2Proof.Machine.execRes3AtIdxD ii d s
  | .res3AtIdxE ii d => Sys2Proof.Machine.execRes3AtIdxE ii d s
  | .res3AtIdxH ii d => Sys2Proof.Machine.execRes3AtIdxH ii d s
  | .res3AtIdxL ii d => Sys2Proof.Machine.execRes3AtIdxL ii d s
  | .res3AtIdx ii d => Sys2Proof.Machine.execRes3AtIdx ii d s
  | .res3AtIdxA ii d => Sys2Proof.Machine.execRes3AtIdxA ii d s
  | .res4AtIdxB ii d => Sys2Proof.Machine.execRes4AtIdxB ii d s
  | .res4AtIdxC ii d => Sys2Proof.Machine.execRes4AtIdxC ii d s
  | .res4AtIdxD ii d => Sys2Proof.Machine.execRes4AtIdxD ii d s
  | .res4AtIdxE ii d => Sys2Proof.Machine.execRes4AtIdxE ii d s
  | .res4AtIdxH ii d => Sys2Proof.Machine.execRes4AtIdxH ii d s
  | .res4AtIdxL ii d => Sys2Proof.Machine.execRes4AtIdxL ii d s
  | .res4AtIdx ii d => Sys2Proof.Machine.execRes4AtIdx ii d s
  | .res4AtIdxA ii d => Sys2Proof.Machine.execRes4AtIdxA ii d s
  | .res5AtIdxB ii d => Sys2Proof.Machine.execRes5AtIdxB ii d s
  | .res5AtIdxC ii d => Sys2Proof.Machine.execRes5AtIdxC ii d s
  | .res5AtIdxD ii d => Sys2Proof.Machine.execRes5AtIdxD ii d s
  | .res5AtIdxE ii d => Sys2Proof.Machine.execRes5AtIdxE ii d s
  | .res5AtIdxH ii d => Sys2Proof.Machine.execRes5AtIdxH ii d s
  | .res5AtIdxL ii d => Sys2Proof.Machine.execRes5AtIdxL ii d s
  | .res5AtIdx ii d => Sys2Proof.Machine.execRes5AtIdx ii d s
  | .res5AtIdxA ii d => Sys2Proof.Machine.execRes5AtIdxA ii d s
  | .res6AtIdxB ii d => Sys2Proof.Machine.execRes6AtIdxB ii d s
  | .res6AtIdxC ii d => Sys2Proof.Machine.execRes6AtIdxC ii d s
  | .res6AtIdxD ii d => Sys2Proof.Machine.execRes6AtIdxD ii d s
  | .res6AtIdxE ii d => Sys2Proof.Machine.execRes6AtIdxE ii d s
  | .res6AtIdxH ii d => Sys2Proof.Machine.execRes6AtIdxH ii d s
  | .res6AtIdxL ii d => Sys2Proof.Machine.execRes6AtIdxL ii d s
  | .res6AtIdx ii d => Sys2Proof.Machine.execRes6AtIdx ii d s
  | .res6AtIdxA ii d => Sys2Proof.Machine.execRes6AtIdxA ii d s
  | .res7AtIdxB ii d => Sys2Proof.Machine.execRes7AtIdxB ii d s
  | .res7AtIdxC ii d => Sys2Proof.Machine.execRes7AtIdxC ii d s
  | .res7AtIdxD ii d => Sys2Proof.Machine.execRes7AtIdxD ii d s
  | .res7AtIdxE ii d => Sys2Proof.Machine.execRes7AtIdxE ii d s
  | .res7AtIdxH ii d => Sys2Proof.Machine.execRes7AtIdxH ii d s
  | .res7AtIdxL ii d => Sys2Proof.Machine.execRes7AtIdxL ii d s
  | .res7AtIdx ii d => Sys2Proof.Machine.execRes7AtIdx ii d s
  | .res7AtIdxA ii d => Sys2Proof.Machine.execRes7AtIdxA ii d s
  | .set0AtIdxB ii d => Sys2Proof.Machine.execSet0AtIdxB ii d s
  | .set0AtIdxC ii d => Sys2Proof.Machine.execSet0AtIdxC ii d s
  | .set0AtIdxD ii d => Sys2Proof.Machine.execSet0AtIdxD ii d s
  | .set0AtIdxE ii d => Sys2Proof.Machine.execSet0AtIdxE ii d s
  | .set0AtIdxH ii d => Sys2Proof.Machine.execSet0AtIdxH ii d s
  | .set0AtIdxL ii d => Sys2Proof.Machine.execSet0AtIdxL ii d s
  | .set0AtIdx ii d => Sys2Proof.Machine.execSet0AtIdx ii d s
  | .set0AtIdxA ii d => Sys2Proof.Machine.execSet0AtIdxA ii d s
  | .set1AtIdxB ii d => Sys2Proof.Machine.execSet1AtIdxB ii d s
  | .set1AtIdxC ii d => Sys2Proof.Machine.execSet1AtIdxC ii d s
  | .set1AtIdxD ii d => Sys2Proof.Machine.execSet1AtIdxD ii d s
  | .set1AtIdxE ii d => Sys2Proof.Machine.execSet1AtIdxE ii d s
  | .set1AtIdxH ii d => Sys2Proof.Machine.execSet1AtIdxH ii d s
  | .set1AtIdxL ii d => Sys2Proof.Machine.execSet1AtIdxL ii d s
  | .set1AtIdx ii d => Sys2Proof.Machine.execSet1AtIdx ii d s
  | .set1AtIdxA ii d => Sys2Proof.Machine.execSet1AtIdxA ii d s
  | .set2AtIdxB ii d => Sys2Proof.Machine.execSet2AtIdxB ii d s
  | .set2AtIdxC ii d => Sys2Proof.Machine.execSet2AtIdxC ii d s
  | .set2AtIdxD ii d => Sys2Proof.Machine.execSet2AtIdxD ii d s
  | .set2AtIdxE ii d => Sys2Proof.Machine.execSet2AtIdxE ii d s
  | .set2AtIdxH ii d => Sys2Proof.Machine.execSet2AtIdxH ii d s
  | .set2AtIdxL ii d => Sys2Proof.Machine.execSet2AtIdxL ii d s
  | .set2AtIdx ii d => Sys2Proof.Machine.execSet2AtIdx ii d s
  | .set2AtIdxA ii d => Sys2Proof.Machine.execSet2AtIdxA ii d s
  | .set3AtIdxB ii d => Sys2Proof.Machine.execSet3AtIdxB ii d s
  | .set3AtIdxC ii d => Sys2Proof.Machine.execSet3AtIdxC ii d s
  | .set3AtIdxD ii d => Sys2Proof.Machine.execSet3AtIdxD ii d s
  | .set3AtIdxE ii d => Sys2Proof.Machine.execSet3AtIdxE ii d s
  | .set3AtIdxH ii d => Sys2Proof.Machine.execSet3AtIdxH ii d s
  | .set3AtIdxL ii d => Sys2Proof.Machine.execSet3AtIdxL ii d s
  | .set3AtIdx ii d => Sys2Proof.Machine.execSet3AtIdx ii d s
  | .set3AtIdxA ii d => Sys2Proof.Machine.execSet3AtIdxA ii d s
  | .set4AtIdxB ii d => Sys2Proof.Machine.execSet4AtIdxB ii d s
  | .set4AtIdxC ii d => Sys2Proof.Machine.execSet4AtIdxC ii d s
  | .set4AtIdxD ii d => Sys2Proof.Machine.execSet4AtIdxD ii d s
  | .set4AtIdxE ii d => Sys2Proof.Machine.execSet4AtIdxE ii d s
  | .set4AtIdxH ii d => Sys2Proof.Machine.execSet4AtIdxH ii d s
  | .set4AtIdxL ii d => Sys2Proof.Machine.execSet4AtIdxL ii d s
  | .set4AtIdx ii d => Sys2Proof.Machine.execSet4AtIdx ii d s
  | .set4AtIdxA ii d => Sys2Proof.Machine.execSet4AtIdxA ii d s
  | .set5AtIdxB ii d => Sys2Proof.Machine.execSet5AtIdxB ii d s
  | .set5AtIdxC ii d => Sys2Proof.Machine.execSet5AtIdxC ii d s
  | .set5AtIdxD ii d => Sys2Proof.Machine.execSet5AtIdxD ii d s
  | .set5AtIdxE ii d => Sys2Proof.Machine.execSet5AtIdxE ii d s
  | .set5AtIdxH ii d => Sys2Proof.Machine.execSet5AtIdxH ii d s
  | .set5AtIdxL ii d => Sys2Proof.Machine.execSet5AtIdxL ii d s
  | .set5AtIdx ii d => Sys2Proof.Machine.execSet5AtIdx ii d s
  | .set5AtIdxA ii d => Sys2Proof.Machine.execSet5AtIdxA ii d s
  | .set6AtIdxB ii d => Sys2Proof.Machine.execSet6AtIdxB ii d s
  | .set6AtIdxC ii d => Sys2Proof.Machine.execSet6AtIdxC ii d s
  | .set6AtIdxD ii d => Sys2Proof.Machine.execSet6AtIdxD ii d s
  | .set6AtIdxE ii d => Sys2Proof.Machine.execSet6AtIdxE ii d s
  | .set6AtIdxH ii d => Sys2Proof.Machine.execSet6AtIdxH ii d s
  | .set6AtIdxL ii d => Sys2Proof.Machine.execSet6AtIdxL ii d s
  | .set6AtIdx ii d => Sys2Proof.Machine.execSet6AtIdx ii d s
  | .set6AtIdxA ii d => Sys2Proof.Machine.execSet6AtIdxA ii d s
  | .set7AtIdxB ii d => Sys2Proof.Machine.execSet7AtIdxB ii d s
  | .set7AtIdxC ii d => Sys2Proof.Machine.execSet7AtIdxC ii d s
  | .set7AtIdxD ii d => Sys2Proof.Machine.execSet7AtIdxD ii d s
  | .set7AtIdxE ii d => Sys2Proof.Machine.execSet7AtIdxE ii d s
  | .set7AtIdxH ii d => Sys2Proof.Machine.execSet7AtIdxH ii d s
  | .set7AtIdxL ii d => Sys2Proof.Machine.execSet7AtIdxL ii d s
  | .set7AtIdx ii d => Sys2Proof.Machine.execSet7AtIdx ii d s
  | .set7AtIdxA ii d => Sys2Proof.Machine.execSet7AtIdxA ii d s

end Sys2Proof.Machine
end

