-- ==== Sys2Proof/Machine/Sequencer.lean ====
section
/-! DEFINITION. The sequencer: fetching an instruction's bytes, and the order of events in one step (R300 to R307, R72). -/

namespace Sys2Proof.Machine

-- A step decodes, and so has no compiled code (see Sys2Proof/Decode.lean).
noncomputable section

/-- n bytes from address a upwards, wrapping (R28). -/
def State.bytesAt (s : State) (a : Word) : Nat → List Byte
  | 0 => []
  | n + 1 => s.peek a :: s.bytesAt (a + 1#16) n

/-- The read_mem calls that fetch n bytes from a upwards, in stream order (R58). -/
def State.fetchCalls (s : State) (a : Word) : Nat → List BusCall
  | 0 => []
  | n + 1 => .readMem a (s.peek a) :: s.fetchCalls (a + 1#16) n

/-- The host's answer to this step's poll_pending(): its script, then a free value (R304; notes/assumptions/5.md). -/
def State.pollAnswer (s : State) : Bool := s.pollAnswers.headD (Config.freePoll s.draws)

/-- Steps 1 and 2 of R301: `ei_delay` is cleared, and poll_pending() called once. -/
def State.beginStep (s : State) : State :=
  { s with eiDelay := false, calls := [.pollPending s.pollAnswer], pollAnswers := s.pollAnswers.tail,
           draws := if s.pollAnswers.isEmpty then s.draws + 1 else s.draws }

/-- An NMI is accepted (R306). -/
def State.acceptsNmi (s : State) : Bool := s.nmiLatch && s.pendingPrefix.isNone

/-- A maskable interrupt is accepted, no NMI being accepted (R304, R305). -/
def State.acceptsMaskable (s : State) : Bool :=
  s.iff1 && s.pendingPrefix.isNone && !s.eiDelay && (s.intLatch || s.pollAnswer)

/-- M1_WAIT added for n M1 cycles (R16, R300). The sum is not bounded: R300 returns a u32 while R8's M1_WAIT is a nat, and a
count past 32 bits is left open (DESIGN CHOICE, notes/assumptions/21.md). -/
def State.addWaits (s : State) (n : Nat) : State := s.addCycles (s.params.m1Wait * n)

/-- R182's q after a step. Under `a_only` there is none, and the field stays false (notes/assumptions/9.md). -/
def State.noteQ (s : State) (wrote : Bool) : State := { s with q := decide (s.params.scfCcfYx = .qModel) && wrote }

/-- An interrupt response as a step: the entry, and its one M1 cycle (R300, R182). -/
def respond (c : Cause) (s : State) : State := ((takeInterrupt c s).addWaits 1).noteQ false

/-- A halted step that accepts nothing: no bus access, one M1 cycle in R, 4 cycles (R261, R301). -/
def haltedIdle (s : State) : State := (((s.bumpR 1).took 4).addWaits 1).noteQ false

/-- The M1 cycles of this step: one fewer when the prefix came from the previous step (R72, R91). -/
def stepM1 (pending : Option Idx) (i : Instr) : Nat :=
  match pending with
  | none => i.op.m1
  | some _ => i.op.m1 - 1

/-- `credit`: the cycles of a prefix charged in the previous step (R72). -/
def credit (pending : Option Idx) : Nat :=
  match pending with
  | none => 0
  | some _ => 4

/-- The state an instruction's pseudocode starts in: all its bytes fetched, PC past them, R counted, and no prefix
pending (R14, R18, R72). -/
def State.fetched (s : State) (d : Decoded) : State :=
  { s with pc := s.pc + BitVec.ofNat 16 d.size, r := bumpRefresh (stepM1 s.pendingPrefix d.instr) s.r,
           pendingPrefix := none, calls := s.calls ++ s.fetchCalls s.pc d.size }

/-- What the step adds after the instruction: the credit off its cycles, M1_WAIT on them, and q (R72, R182, R300). -/
def State.finished (s : State) (pending : Option Idx) (i : Instr) : State :=
  (({ s with cycles := s.cycles - credit pending }).addWaits (stepM1 pending i)).noteQ i.op.writesF

/-- Step 6 of R301: `Decode()` (R72). Five bytes are enough for every instruction (R345). -/
def executeNext (s : State) : Result :=
  match decode s.pendingPrefix (s.bytesAt s.pc 5) with
  | .error _ => .refused .undecodable
  | .ok d =>
    match exec d.instr (s.fetched d) with
    | .next t => .next (t.finished s.pendingPrefix d.instr)
    | .fault f => .fault f
    | .refused r => .refused r

/-- One step, in the order of R301: an NMI, a maskable interrupt, the halted idle, or an instruction (R307). -/
def runStep (s : State) : Result :=
  if s.acceptsNmi then .next (respond .nmi s.beginStep)
  else if s.acceptsMaskable then .next (respond (maskableCause s.im) s.beginStep)
  else if s.halted then .next (haltedIdle s.beginStep)
  else executeNext s.beginStep

/-- Bytes stored from address a upwards. -/
def State.pokeBytes (s : State) (a : Word) : List Byte → State
  | [] => s
  | b :: rest => (s.poke a b).pokeBytes (a + 1#16) rest

end

end Sys2Proof.Machine
end

