-- ==== Sys2Proof/Machine/Step.lean ====
section
/-! DEFINITION. The step, and the state in which the next step fetches a given instruction. -/

namespace Sys2Proof.Machine

noncomputable section

/-- One call of step() (R300, R301). -/
def step (s : State) : Host.Outcome State Fault Refusal := runStep s

/-- The instruction word w stored where the next step fetches, with nothing that would keep that step from fetching it
in BASE: no pending prefix, no halt and no request (notes/assumptions/12.md). -/
def State.withFetchWord (s : State) (nbits w : Nat) : State :=
  { s.pokeBytes s.pc (tableBytes nbits w) with
    pendingPrefix := none, halted := false, nmiLatch := false, intLatch := false, pollAnswers := [false] }

end

end Sys2Proof.Machine
end

