-- ==== Sys2Proof/Machine/HostOps.lean ====
section
/-! DEFINITION. What the host can do to the core between two steps (R38, R340 to R342, R346): reset, the two interrupt
requests, and reading and writing any register or hidden state. -/

namespace Sys2Proof.Machine

/-- A bank with `RESET_FILL` in each pair (R39). -/
def Bank.filled (w : Word) : Bank :=
  ⟨hiByte w, loByte w, hiByte w, loByte w, hiByte w, loByte w, hiByte w, loByte w⟩

/-- `reset()`: every element of R37's tuple takes its reset value, every request is cleared, and no callback is called
(R39, R340). Memory, the host's scripts and the parameters are not the core's to change (R39, R50). -/
def hostReset (s : State) : State :=
  { s with
    main := Bank.filled s.params.resetFill, alt := Bank.filled s.params.resetFill,
    ix := s.params.resetFill, iy := s.params.resetFill, sp := s.params.resetSp, pc := 0x0000#16,
    i := 0x00#8, r := 0x00#8, iff1 := false, iff2 := false, im := .im0,
    halted := false, intLatch := false, nmiLatch := false, eiDelay := false, pendingPrefix := none,
    memptr := 0x0000#16, q := false, calls := [], cycles := 0 }

/-- A newly constructed core over a memory, with parameters: construction performs reset() (R341, R346). -/
def construct (p : Params) (mem : List Host.Cell) : State :=
  hostReset { State.reset with params := p, mem := mem }

/-- `request_interrupt()` (R34, R304, R322). -/
def requestInterrupt (s : State) : State := { s with intLatch := true }

/-- `request_nmi()` (R34, R306, R315). -/
def requestNmi (s : State) : State := { s with nmiLatch := true }

/-- The 8-bit registers the accessors name; the primed ones are `a'` to `l'` (R38). -/
inductive Name8
  | a | f | b | c | d | e | h | l
  | a' | f' | b' | c' | d' | e' | h' | l'
  | ixh | ixl | iyh | iyl
  | i | r
  deriving DecidableEq, Repr

/-- The pairs and 16-bit registers the accessors name (R38), and MEMPTR. -/
inductive Name16
  | af | bc | de | hl
  | af' | bc' | de' | hl'
  | ix | iy | sp | pc | memptr
  deriving DecidableEq, Repr

/-- The 1-bit state the accessors name (R38). -/
inductive NameBit
  | iff1 | iff2 | halted | intLatch | nmiLatch | eiDelay | q
  deriving DecidableEq, Repr

/-- Reads an 8-bit register (R38). -/
def State.get8 (s : State) (n : Name8) : Byte :=
  match n with
  | .a => s.main.a
  | .f => s.main.f
  | .b => s.main.b
  | .c => s.main.c
  | .d => s.main.d
  | .e => s.main.e
  | .h => s.main.h
  | .l => s.main.l
  | .a' => s.alt.a
  | .f' => s.alt.f
  | .b' => s.alt.b
  | .c' => s.alt.c
  | .d' => s.alt.d
  | .e' => s.alt.e
  | .h' => s.alt.h
  | .l' => s.alt.l
  | .ixh => hiByte s.ix
  | .ixl => loByte s.ix
  | .iyh => hiByte s.iy
  | .iyl => loByte s.iy
  | .i => s.i
  | .r => s.r

/-- Writes an 8-bit register (R38). -/
def State.set8 (s : State) (n : Name8) (v : Byte) : State :=
  match n with
  | .a => { s with main := { s.main with a := v } }
  | .f => { s with main := { s.main with f := v } }
  | .b => { s with main := { s.main with b := v } }
  | .c => { s with main := { s.main with c := v } }
  | .d => { s with main := { s.main with d := v } }
  | .e => { s with main := { s.main with e := v } }
  | .h => { s with main := { s.main with h := v } }
  | .l => { s with main := { s.main with l := v } }
  | .a' => { s with alt := { s.alt with a := v } }
  | .f' => { s with alt := { s.alt with f := v } }
  | .b' => { s with alt := { s.alt with b := v } }
  | .c' => { s with alt := { s.alt with c := v } }
  | .d' => { s with alt := { s.alt with d := v } }
  | .e' => { s with alt := { s.alt with e := v } }
  | .h' => { s with alt := { s.alt with h := v } }
  | .l' => { s with alt := { s.alt with l := v } }
  | .ixh => { s with ix := pack v (loByte s.ix) }
  | .ixl => { s with ix := pack (hiByte s.ix) v }
  | .iyh => { s with iy := pack v (loByte s.iy) }
  | .iyl => { s with iy := pack (hiByte s.iy) v }
  | .i => { s with i := v }
  | .r => { s with r := v }

/-- Reads a pair or a 16-bit register (R38). -/
def State.get16 (s : State) (n : Name16) : Word :=
  match n with
  | .af => pack s.main.a s.main.f
  | .bc => pack s.main.b s.main.c
  | .de => pack s.main.d s.main.e
  | .hl => pack s.main.h s.main.l
  | .af' => pack s.alt.a s.alt.f
  | .bc' => pack s.alt.b s.alt.c
  | .de' => pack s.alt.d s.alt.e
  | .hl' => pack s.alt.h s.alt.l
  | .ix => s.ix
  | .iy => s.iy
  | .sp => s.sp
  | .pc => s.pc
  | .memptr => s.memptr

/-- Writes a pair or a 16-bit register: both halves (R11, R38). -/
def State.set16 (s : State) (n : Name16) (v : Word) : State :=
  match n with
  | .af => { s with main := { s.main with a := hiByte v, f := loByte v } }
  | .bc => { s with main := { s.main with b := hiByte v, c := loByte v } }
  | .de => { s with main := { s.main with d := hiByte v, e := loByte v } }
  | .hl => { s with main := { s.main with h := hiByte v, l := loByte v } }
  | .af' => { s with alt := { s.alt with a := hiByte v, f := loByte v } }
  | .bc' => { s with alt := { s.alt with b := hiByte v, c := loByte v } }
  | .de' => { s with alt := { s.alt with d := hiByte v, e := loByte v } }
  | .hl' => { s with alt := { s.alt with h := hiByte v, l := loByte v } }
  | .ix => { s with ix := v }
  | .iy => { s with iy := v }
  | .sp => { s with sp := v }
  | .pc => { s with pc := v }
  | .memptr => { s with memptr := v }

/-- Reads a 1-bit state (R38). -/
def State.getBit (s : State) (n : NameBit) : Bool :=
  match n with
  | .iff1 => s.iff1
  | .iff2 => s.iff2
  | .halted => s.halted
  | .intLatch => s.intLatch
  | .nmiLatch => s.nmiLatch
  | .eiDelay => s.eiDelay
  | .q => s.q

/-- Writes a 1-bit state (R38). -/
def State.setFlag (s : State) (n : NameBit) (v : Bool) : State :=
  match n with
  | .iff1 => { s with iff1 := v }
  | .iff2 => { s with iff2 := v }
  | .halted => { s with halted := v }
  | .intLatch => { s with intLatch := v }
  | .nmiLatch => { s with nmiLatch := v }
  | .eiDelay => { s with eiDelay := v }
  | .q => { s with q := v }

/-- Writes IM (R38). -/
def State.setIm (s : State) (m : IntMode) : State := { s with im := m }

/-- Writes pending_prefix (R38). -/
def State.setPendingPrefix (s : State) (p : Option Idx) : State := { s with pendingPrefix := p }

end Sys2Proof.Machine
end

