-- ==== Sys2Proof/Safety.lean ====
section
/-! DEFINITION. What the statements call a good state, and the spec's two predicates for the end of a run (R344). No step of
this core faults or refuses, so a safe run is any run. -/

namespace Sys2Proof.Machine

/-- Memory is in its canonical form. -/
abbrev State.MemWf (s : State) : Prop := Memory.wf s.mem = true

/-- What every step keeps: memory's form; q is 0 where R37 gives the state no q; a pending prefix never stands with
`halted` (HALT is executed only with none pending, R36, R261); and EI's delay never stands with interrupts off (R263). -/
abbrev State.Inv (s : State) : Prop :=
  s.MemWf ∧ (s.params.scfCcfYx = .aOnly → s.q = false) ∧ (s.pendingPrefix ≠ none → s.halted = false) ∧
    (s.eiDelay = true → s.iff1 = true ∧ s.iff2 = true)

/-- `halted_for_good` (R344). -/
abbrev State.HaltedForGood (s : State) : Prop := s.halted = true ∧ s.iff1 = false ∧ s.nmiLatch = false

/-- `pc_reached(a)` (R344). -/
abbrev State.PcReached (s : State) (a : Word) : Prop := s.pc = a ∧ s.pendingPrefix = none

/-- F with the eight flags given, S to C in R24's order. -/
abbrev FlagsAre (f : Byte) (s z y h x pv n c : Bool) : Prop :=
  flagS f = s ∧ flagZ f = z ∧ flagY f = y ∧ flagH f = h ∧ flagX f = x ∧ flagPV f = pv ∧ flagN f = n ∧ flagC f = c

/-- F after one block I/O iteration with b in B after the decrement, v the byte transferred and k R159's sum (R159), and,
where the iteration repeats under `pc_based`, with pc the rewound PC (R158). -/
abbrev BlockIoFlagsAre (f b v : Byte) (k : Nat) (pcBased : Bool) (pc : Word) : Prop :=
  FlagsAre f (b.getLsbD 7) (b == 0#8) (if pcBased then pc.getLsbD 13 else b.getLsbD 5)
    (if pcBased && decide (255 < k) then
      if v.getLsbD 7 then decide (b.toNat % 16 = 0) else decide (b.toNat % 16 = 15)
     else decide (255 < k))
    (if pcBased then pc.getLsbD 11 else b.getLsbD 3)
    (parity (BitVec.ofNat 8 (k % 8) ^^^ b) ^^
      (pcBased && !parity (BitVec.ofNat 8
        ((if 255 < k then if v.getLsbD 7 then b - 1#8 else b + 1#8 else b).toNat % 8))))
    (v.getLsbD 7) (decide (255 < k))

/-- From s to t the byte at a becomes v and every other byte reads as before. -/
abbrev Stored (s t : State) (a : Word) (v : Byte) : Prop :=
  t.peek a = v ∧ ∀ x, x ≠ a → t.peek x = s.peek x

/-- From s to t the bytes at a and b become v and w and every other byte reads as before. -/
abbrev Stored2 (s t : State) (a : Word) (v : Byte) (b : Word) (w : Byte) : Prop :=
  t.peek a = v ∧ t.peek b = w ∧ ∀ x, x ≠ a → x ≠ b → t.peek x = s.peek x

/-- The next step accepts no interrupt and is not a halted idle: it executes what the bytes at PC decode to (R301). -/
abbrev State.Executes (s : State) : Prop :=
  s.acceptsNmi = false ∧ s.acceptsMaskable = false ∧ s.halted = false

end Sys2Proof.Machine
end

