-- ==== Sys2Proof/WellFormed.lean ====
section
/-! DEFINITION. Which terms of Instr are instructions: the fields of an encoding that select nothing are at a value the
encoding admits. Every other operand admits every value of its type. -/

namespace Sys2Proof

/-- The fields of an ED instruction are at admitted values: y of RETN is not RETI's (R87), y of IM selects the
mode (R80), and NOP* has an unassigned byte (R265). -/
def EdOp.wf : EdOp → Bool
  | .inReg _ => true
  | .inF => true
  | .outReg _ => true
  | .outZero => true
  | .sbcHl _ => true
  | .adcHl _ => true
  | .stPair _ _ => true
  | .ldPair _ _ => true
  | .neg _ => true
  | .retn y => y != 1#3
  | .reti => true
  | .im m y => decide (imMode y = m)
  | .ldIA => true
  | .ldRA => true
  | .ldAI => true
  | .ldAR => true
  | .rrd => true
  | .rld => true
  | .blockLd _ _ => true
  | .blockCp _ _ => true
  | .blockIn _ _ => true
  | .blockOut _ _ => true
  | .nopStar op => unassignedEd op

/-- The fields of an operation are at admitted values. -/
def Op.wf : Op → Bool
  | .base _ => true
  | .cb _ => true
  | .ed o => o.wf
  | .idx _ _ => true
  | .idxCb _ _ _ => true
  | .ignored _ _ => true
  | .ignoredEd _ o => o.wf
  | .redundant _ _ => true

/-- A well-formed instruction. -/
def Instr.wf (i : Instr) : Bool := i.op.wf

end Sys2Proof
end

