-- ==== Sys2Proof/Certificates/Slice0/Obligations.lean ====
section
/-! DEFINITION. The statements for the provers. A statement about an instruction names the operation `i.op` it has, so that
it speaks of every mnemonic of that operation, and gives the whole next state: what is not named is unchanged. Where a
statement writes `mem := t.mem`, `Stored` says which bytes change. The fields params, pollAnswers, vectorAnswers, ioAnswers,
draws, calls and cycles are the model's own (notes/assumptions/3.md to 8.md), and no count is cut to 32 bits (21.md). "Log n" is notes/assumptions/n.md. -/

open Sys2Proof Sys2Proof.Machine

/-! Reset (R39, R340). -/

/-- What reset() leaves, for any parameters (R37, R39, R340), that State.reset is such a state, and that a newly constructed
core is one too, over the memory and with the parameters it is given (R341). The values of the pairs of both banks, of IX,
IY, I, R and MEMPTR are what R39 marks as the spec's own choice (log 19); `calls`, by which no callback is called, is the
model's own field (log 6), and so are the parameters (log 8). -/
def Obligations.ResetLeaves : Prop :=
  (∀ s : State, ∃ t, hostReset s = t ∧
    t.pc = 0x0000#16 ∧ t.sp = s.params.resetSp ∧ t.iff1 = false ∧ t.iff2 = false ∧ t.im = .im0 ∧
    t.af = s.params.resetFill ∧ t.bc = s.params.resetFill ∧ t.de = s.params.resetFill ∧ t.hl = s.params.resetFill ∧
    pack t.alt.a t.alt.f = s.params.resetFill ∧ pack t.alt.b t.alt.c = s.params.resetFill ∧
    pack t.alt.d t.alt.e = s.params.resetFill ∧ pack t.alt.h t.alt.l = s.params.resetFill ∧
    t.ix = s.params.resetFill ∧ t.iy = s.params.resetFill ∧
    t.i = 0x00#8 ∧ t.r = 0x00#8 ∧ t.memptr = 0x0000#16 ∧ t.halted = false ∧ t.intLatch = false ∧
    t.nmiLatch = false ∧ t.eiDelay = false ∧ t.pendingPrefix = none ∧ t.q = false ∧
    t.mem = s.mem ∧ t.calls = []) ∧
  hostReset State.reset = State.reset ∧ State.reset.params.resetFill = 0xFFFF#16 ∧
  State.reset.params.resetSp = 0xFFFF#16 ∧
  (∀ (p : Params) (mem : List Host.Cell), ∃ t, construct p mem = t ∧ hostReset t = t ∧ t.params = p ∧ t.mem = mem)

/-- The reset state meets the invariant every step keeps. Memory is a RAM by the model's choice (log 1). -/
def Obligations.ResetMeetsInvariant : Prop := State.reset.Inv

/-! Encoding (R70 to R92). -/

/-- Decoding the bytes of a well-formed instruction, whatever bytes follow, gives it and its length. -/
def Obligations.DecodeOfEncode : Prop :=
  ∀ (i : Instr) (rest : List Byte), i.wf = true →
    decode none (encode i ++ rest) = .ok ⟨i, (encode i).length⟩

/-- What the decoder reads encodes to the bytes it read, and is well formed. -/
def Obligations.EncodeOfDecode : Prop :=
  ∀ (bytes : List Byte) (d : Decoded), decode none bytes = .ok d →
    encode d.instr = bytes.take d.size ∧ d.size ≤ bytes.length ∧ d.instr.wf = true

/-- Every five bytes decode, in every prefix state: no encoding is illegal (R90), and none is longer (R345). -/
def Obligations.EveryFiveBytesDecode : Prop :=
  ∀ (pending : Option Idx) (a b c d e : Byte), ∃ x,
    decode pending [a, b, c, d, e] = .ok x ∧ 1 ≤ x.size ∧ x.size ≤ 5 ∧ x.instr.wf = true

/-- A pending prefix decodes what follows as if it had just been fetched (R36, R71). -/
def Obligations.PendingPrefixDecodesAlike : Prop :=
  ∀ (ii : Idx) (bytes : List Byte) (i : Instr) (n : Nat),
    decode (some ii) bytes = .ok ⟨i, n⟩ ↔ decode none (ii.byte :: bytes) = .ok ⟨i, n + 1⟩

/-- Words written out from the spec's encodings decode to the instructions they stand for. -/
def Obligations.SpecWordsDecode : Prop :=
  decode none [0x78#8] = .ok ⟨.ldAB, 1⟩ ∧
  decode none [0x36#8, 0x42#8] = .ok ⟨.ldAtHlN 0x42#8, 2⟩ ∧
  decode none [0x22#8, 0x00#8, 0x80#8] = .ok ⟨.ldAtNnHl 0x8000#16, 3⟩ ∧
  decode none [0xCB#8, 0x7C#8] = .ok ⟨.bit7H, 2⟩ ∧
  decode none [0xED#8, 0xB0#8] = .ok ⟨.ldir, 2⟩ ∧
  decode none [0xED#8, 0x5E#8] = .ok ⟨.im2 3#3, 2⟩ ∧
  decode none [0xDD#8, 0x36#8, 0x02#8, 0xAA#8] = .ok ⟨.ldAtIdxN .ix 0x02#8 0xAA#8, 4⟩ ∧
  decode none [0xFD#8, 0xCB#8, 0xFF#8, 0x3F#8] = .ok ⟨.srlAtIdxA .iy 0xFF#8, 4⟩ ∧
  decode none [0xDD#8, 0x3E#8, 0x05#8] = .ok ⟨.ignoredLdAN .ix 0x05#8, 3⟩ ∧
  decode none [0xDD#8, 0xFD#8] = .ok ⟨.redundantPrefix .ix .iy, 2⟩

/-! The step (R300 to R307, R72). -/

/-- A step that accepts nothing runs the decoded instruction on the state with its bytes fetched, takes 4 cycles off for a
prefix that was pending, and adds M1_WAIT and q; and what `bytesAt` and `fetchCalls` name. The bytes are read before any
effect (log 10, DEDUCED); M1_WAIT counts the M1 cycles of this step alone, so not those of a pending prefix (log 15, DEDUCED);
q stays false under `a_only` (log 9, DEDUCED); a count past 32 bits is not cut (log 21, DESIGN CHOICE). Memory is a RAM by the model's choice (log 1). Past the host's script
poll_pending() answers a free value (log 5). -/
def Obligations.StepRunsDecodedInstruction : Prop :=
  (∀ (s : State) (d : Decoded), s.Executes →
    decode s.pendingPrefix (s.bytesAt s.pc 5) = .ok d →
    ∃ t, exec d.instr
        { s with
          eiDelay := false, pollAnswers := s.pollAnswers.tail,
          draws := if s.pollAnswers.isEmpty then s.draws + 1 else s.draws, pendingPrefix := none,
          pc := s.pc + BitVec.ofNat 16 d.size, r := bumpRefresh (stepM1 s.pendingPrefix d.instr) s.r,
          calls := .pollPending s.pollAnswer :: s.fetchCalls s.pc d.size } = .next t ∧
      step s = .next
        { t with
          cycles := t.cycles - (if s.pendingPrefix = none then 0 else 4) +
            t.params.m1Wait * stepM1 s.pendingPrefix d.instr,
          q := decide (t.params.scfCcfYx = .qModel) && d.instr.op.writesF }) ∧
  (∀ (s : State) (a : Word) (n : Nat),
    (s.bytesAt a n).length = n ∧ (s.fetchCalls a n).length = n ∧
    ∀ k, k < n → ∃ x, x = a + BitVec.ofNat 16 k ∧ (s.bytesAt a n)[k]? = some (s.peek x) ∧
      (s.fetchCalls a n)[k]? = some (.readMem x (s.peek x)))

/-- Every step is defined in every state: no trap, no fault, no refusal. -/
def Obligations.StepAlwaysAnswers : Prop := ∀ s : State, ∃ t, step s = .next t

/-- Every step keeps the invariant. Memory is a RAM by the model's choice (log 1). -/
def Obligations.StepKeepsInvariant : Prop := ∀ s t : State, s.Inv → step s = .next t → t.Inv

/-- A step is bounded: poll_pending() first, then the fetches of the instruction it executes, at most five and none in a step
that executes nothing, then at most four further memory accesses, one I/O access and one vector_low_byte(), and at most 25
cycles and M1_WAIT three times; vector_low_byte() is called exactly when an IM 2 interrupt is accepted (R56, R314). The record
of the calls is the model's own field (log 6), and a count past 32 bits is not cut (log 21, DESIGN CHOICE). Past the host's script poll_pending() answers a free value (log 5). -/
def Obligations.StepIsBounded : Prop :=
  (∀ s t : State, step s = .next t →
    t.cycles ≤ 25 + 3 * s.params.m1Wait ∧
    ∃ n others, t.calls = .pollPending s.pollAnswer :: (s.fetchCalls s.pc n ++ others) ∧
      n ≤ 5 ∧ (¬ s.Executes → n = 0) ∧
      (s.Executes → ∃ d, decode s.pendingPrefix (s.bytesAt s.pc 5) = .ok d ∧ n = d.size) ∧
      (∀ c ∈ others, ∀ b, c ≠ .pollPending b) ∧
      (others.filter fun c => match c with
        | .readMem _ _ => true
        | .writeMem _ _ => true
        | .readIo _ _ => false
        | .writeIo _ _ => false
        | .pollPending _ => false
        | .vectorLowByte _ => false).length ≤ 4 ∧
      (others.filter fun c => match c with
        | .readMem _ _ => false
        | .writeMem _ _ => false
        | .readIo _ _ => true
        | .writeIo _ _ => true
        | .pollPending _ => false
        | .vectorLowByte _ => false).length ≤ 1 ∧
      (others.filter fun c => match c with
        | .readMem _ _ => false
        | .writeMem _ _ => false
        | .readIo _ _ => false
        | .writeIo _ _ => false
        | .pollPending _ => false
        | .vectorLowByte _ => true).length ≤ 1) ∧
  (∀ s t : State, step s = .next t →
    ((∃ v, BusCall.vectorLowByte v ∈ t.calls) ↔
      (s.acceptsNmi = false ∧ s.acceptsMaskable = true ∧ s.im = .im2)))

/-! Interrupts (R303 to R322). -/

/-- The NMI response. Memory is a RAM by the model's choice (log 1). Past the host's script poll_pending() answers a
free value (log 5). -/
def Obligations.NmiResponse : Prop :=
  ∀ s : State, s.nmiLatch = true → s.pendingPrefix = none →
    ∃ t, step s = .next t ∧
      t = { s with
            nmiLatch := false, halted := false, r := bumpRefresh 1 s.r, iff2 := s.iff1, iff1 := false,
            sp := s.sp - 2#16, pc := 0x0066#16, memptr := 0x0066#16, mem := t.mem,
            eiDelay := false, q := false, pollAnswers := s.pollAnswers.tail,
            draws := if s.pollAnswers.isEmpty then s.draws + 1 else s.draws,
            calls := [.pollPending s.pollAnswer, .writeMem (s.sp - 1#16) (hiByte s.pc),
              .writeMem (s.sp - 2#16) (loByte s.pc)],
            cycles := 11 + s.params.m1Wait } ∧
      Stored2 s t (s.sp - 1#16) (hiByte s.pc) (s.sp - 2#16) (loByte s.pc)

/-- The maskable response in IM 0 and IM 1. Memory is a RAM by the model's choice (log 1). Past the host's script
poll_pending() answers a free value (log 5). -/
def Obligations.FixedVectorResponse : Prop :=
  ∀ s : State, s.nmiLatch = false → s.pendingPrefix = none → s.eiDelay = false → s.iff1 = true →
    (s.intLatch = true ∨ s.pollAnswer = true) → s.im ≠ .im2 →
    ∃ t w, step s = .next t ∧ (s.im = .im0 → w = s.params.im0Vector) ∧ (s.im = .im1 → w = 0x0038#16) ∧
      t = { s with
            intLatch := false, halted := false, r := bumpRefresh 1 s.r, iff1 := false, iff2 := false,
            sp := s.sp - 2#16, pc := w, memptr := w, mem := t.mem,
            eiDelay := false, q := false, pollAnswers := s.pollAnswers.tail,
            draws := if s.pollAnswers.isEmpty then s.draws + 1 else s.draws,
            calls := [.pollPending s.pollAnswer, .writeMem (s.sp - 1#16) (hiByte s.pc),
              .writeMem (s.sp - 2#16) (loByte s.pc)],
            cycles := 13 + s.params.m1Wait } ∧
      Stored2 s t (s.sp - 1#16) (hiByte s.pc) (s.sp - 2#16) (loByte s.pc)

/-- The maskable response in IM 2: PC is pushed, then the vector is asked for and the table read, so the table entry is
what stands there after the push. Memory is a RAM by the model's choice (log 1). Past the host's script the vector is a
free value (log 4). Past the host's script poll_pending() answers a free value (log 5). -/
def Obligations.TableVectorResponse : Prop :=
  ∀ s : State, s.nmiLatch = false → s.pendingPrefix = none → s.eiDelay = false → s.iff1 = true →
    (s.intLatch = true ∨ s.pollAnswer = true) → s.im = .im2 →
    ∃ t n v a, n = (if s.pollAnswers.isEmpty then s.draws + 1 else s.draws) ∧
      v = s.vectorAnswers.headD (Config.freeVectorByte n) ∧ a = pack s.i v ∧ step s = .next t ∧
      t.pc = pack (t.peek (a + 1#16)) (t.peek a) ∧ t.memptr = t.pc ∧
      t = { s with
            intLatch := false, halted := false, r := bumpRefresh 1 s.r, iff1 := false, iff2 := false,
            sp := s.sp - 2#16, pc := t.pc, memptr := t.memptr, mem := t.mem,
            eiDelay := false, q := false, pollAnswers := s.pollAnswers.tail,
            vectorAnswers := s.vectorAnswers.tail,
            draws := if s.vectorAnswers.isEmpty then n + 1 else n,
            calls := [.pollPending s.pollAnswer, .writeMem (s.sp - 1#16) (hiByte s.pc),
              .writeMem (s.sp - 2#16) (loByte s.pc), .vectorLowByte v, .readMem a (t.peek a),
              .readMem (a + 1#16) (t.peek (a + 1#16))],
            cycles := 19 + s.params.m1Wait } ∧
      Stored2 s t (s.sp - 1#16) (hiByte s.pc) (s.sp - 2#16) (loByte s.pc)

/-- What blocks acceptance: with EI's delay no maskable interrupt, with a pending prefix none of either kind. The step
then executes an instruction, and EI's delay is over unless that instruction was EI again. Memory is a RAM by the
model's choice (log 1). -/
def Obligations.BlockedAcceptanceExecutes : Prop :=
  ∀ s : State, s.halted = false →
    (s.pendingPrefix ≠ none ∨ (s.eiDelay = true ∧ s.nmiLatch = false)) →
    ∃ d t u, decode s.pendingPrefix (s.bytesAt s.pc 5) = .ok d ∧
      exec d.instr (s.beginStep.fetched d) = .next u ∧ step s = .next t ∧ t.pc = u.pc ∧ t.main = u.main ∧
      t.intLatch = s.intLatch ∧ t.nmiLatch = s.nmiLatch ∧
      (t.eiDelay = true → d.instr.op = .base .ei ∨ ∃ ii, d.instr.op = .ignored ii .ei)

/-- A halted step that accepts nothing: only R and the step's own record change. Past the host's script poll_pending()
answers a free value (log 5). -/
def Obligations.HaltedStepIdles : Prop :=
  ∀ s : State, s.halted = true → s.acceptsNmi = false → s.acceptsMaskable = false →
    step s = .next
      { s with
        r := bumpRefresh 1 s.r, eiDelay := false, q := false, pollAnswers := s.pollAnswers.tail,
        draws := if s.pollAnswers.isEmpty then s.draws + 1 else s.draws,
        calls := [.pollPending s.pollAnswer], cycles := 4 + s.params.m1Wait }

/-- What accepts each kind of request (R304 to R306). A request stays until it is accepted: the NMI latch until an NMI is,
the maskable latch until a maskable interrupt is (R315, R321). Each host call sets its own latch and nothing else, and made
twice is made once (R34, R315, R322). Past the host's script poll_pending() answers a free value (log 5); the host's calls are
functions beside the step (log 13). -/
def Obligations.RequestsPersist : Prop :=
  (∀ s t : State, step s = .next t →
    (t.nmiLatch = (s.nmiLatch && !s.acceptsNmi)) ∧
    (t.intLatch = (s.intLatch && (s.acceptsNmi || !s.acceptsMaskable)))) ∧
  (∀ s : State,
    (s.acceptsNmi = true ↔ s.nmiLatch = true ∧ s.pendingPrefix = none) ∧
    (s.acceptsMaskable = true ↔
      s.iff1 = true ∧ s.pendingPrefix = none ∧ s.eiDelay = false ∧ (s.intLatch = true ∨ s.pollAnswer = true))) ∧
  (∀ s : State,
    requestInterrupt s = { s with intLatch := true } ∧ requestNmi s = { s with nmiLatch := true } ∧
    requestInterrupt (requestInterrupt s) = requestInterrupt s ∧ requestNmi (requestNmi s) = requestNmi s)

/-- RETI and RETN, in every encoding: PC is popped and IFF1 takes IFF2. Memory is a RAM by the model's choice (log 1).
-/
def Obligations.InterruptReturns : Prop :=
  ∀ (i : Instr) (y : BitVec 3) (s : State), (i.op = .ed (.retn y) ∨ i.op = .ed .reti) →
    ∃ w, w = pack (s.peek (s.sp + 1#16)) (s.peek s.sp) ∧
      exec i s = .next
        { s with
          pc := w, memptr := w, sp := s.sp + 2#16, iff1 := s.iff2,
          calls := s.calls ++
            [.readMem s.sp (s.peek s.sp), .readMem (s.sp + 1#16) (s.peek (s.sp + 1#16))],
          cycles := 14 }

/-- An NMI and then RETN put PC, SP and IFF1 back, and leave every other byte of memory as it was. Memory is a RAM by
the model's choice (log 1). -/
def Obligations.NmiThenReturn : Prop :=
  ∀ (i : Instr) (y : BitVec 3) (s : State), i.op = .ed (.retn y) →
    ∃ t, exec i (takeInterrupt .nmi s) = .next t ∧ t.pc = s.pc ∧ t.sp = s.sp ∧ t.iff1 = s.iff1 ∧
      t.main = s.main ∧ ∀ x, x ≠ s.sp - 1#16 → x ≠ s.sp - 2#16 → t.peek x = s.peek x

/-! What instructions leave alone, over all of them. -/

/-- Only EX AF,AF' and EXX reach the second bank (R22). -/
def Obligations.SecondBankOnlyByExchanges : Prop :=
  ∀ (i : Instr) (s t : State), exec i s = .next t → t.alt ≠ s.alt →
    i.op = .base .exx ∨ i.op = .base .exAfAf ∨
      ∃ ii, i.op = .ignored ii .exx ∨ i.op = .ignored ii .exAfAf

/-- Which instructions write I, R, IM, IFF1 and IFF2 (R29, R30, R31, R32). -/
def Obligations.SystemRegisterWriters : Prop :=
  ∀ (i : Instr) (s t : State), exec i s = .next t →
    (t.i ≠ s.i → i.op = .ed .ldIA ∨ ∃ ii, i.op = .ignoredEd ii .ldIA) ∧
    (t.r ≠ s.r → i.op = .ed .ldRA ∨ ∃ ii, i.op = .ignoredEd ii .ldRA) ∧
    (t.im ≠ s.im → ∃ m y, i.op = .ed (.im m y) ∨ ∃ ii, i.op = .ignoredEd ii (.im m y)) ∧
    (t.iff1 ≠ s.iff1 → i.op = .base .ei ∨ i.op = .base .di ∨ i.op = .ed .reti ∨ (∃ y, i.op = .ed (.retn y)) ∨
      ∃ ii, i.op = .ignored ii .ei ∨ i.op = .ignored ii .di ∨ i.op = .ignoredEd ii .reti ∨
        ∃ y, i.op = .ignoredEd ii (.retn y)) ∧
    (t.iff2 ≠ s.iff2 → i.op = .base .ei ∨ i.op = .base .di ∨
      ∃ ii, i.op = .ignored ii .ei ∨ i.op = .ignored ii .di)

/-- What no instruction touches: the request latches, the parameters, q, and the answers to poll_pending() and
vector_low_byte(); and which ones set `halted`, EI's delay and the pending prefix. -/
def Obligations.HiddenStateWriters : Prop :=
  ∀ (i : Instr) (s t : State), exec i s = .next t →
    t.nmiLatch = s.nmiLatch ∧ t.intLatch = s.intLatch ∧ t.params = s.params ∧ t.q = s.q ∧
    t.pollAnswers = s.pollAnswers ∧ t.vectorAnswers = s.vectorAnswers ∧
    (t.halted ≠ s.halted → t.halted = true ∧ (i.op = .base .halt ∨ ∃ ii, i.op = .ignored ii .halt)) ∧
    (t.eiDelay ≠ s.eiDelay → t.eiDelay = true ∧ (i.op = .base .ei ∨ ∃ ii, i.op = .ignored ii .ei)) ∧
    (t.pendingPrefix ≠ s.pendingPrefix →
      ∃ first second, i.op = .redundant first second ∧ t.pendingPrefix = some second)

/-- An instruction whose rule writes no flag leaves F alone (R12, R25); the operations whose rule writes one (R25, R182); and
which bit each flag is and what parity counts (R12, R24). An ignored prefix leaves the flags to the instruction it precedes
(R266). -/
def Obligations.FlagsOnlyWhereTheRuleWrites : Prop :=
  (∀ (i : Instr) (s t : State), exec i s = .next t → i.op.writesF = false → t.main.f = s.main.f) ∧
  (∀ o : BaseOp, (Op.base o).writesF = true ↔
    (∃ k r, o = .aluReg k r) ∨ (∃ k, o = .aluMem k) ∨ (∃ k n, o = .aluN k n) ∨
    (∃ r, o = .incReg r) ∨ o = .incMem ∨ (∃ r, o = .decReg r) ∨ o = .decMem ∨
    o = .daa ∨ o = .cpl ∨ o = .scf ∨ o = .ccf ∨ o = .rlca ∨ o = .rrca ∨ o = .rla ∨ o = .rra ∨
    (∃ p, o = .addHl p) ∨ o = .pop .af ∨ o = .exAfAf) ∧
  (∀ o : CbOp, (Op.cb o).writesF = true ↔
    (∃ k r, o = .rotReg k r) ∨ (∃ k, o = .rotMem k) ∨ (∃ b r, o = .bitReg b r) ∨ (∃ b, o = .bitMem b)) ∧
  (∀ o : EdOp, (Op.ed o).writesF = true ↔
    (∃ y, o = .neg y) ∨ (∃ p, o = .adcHl p) ∨ (∃ p, o = .sbcHl p) ∨ o = .ldAI ∨ o = .ldAR ∨
    (∃ r, o = .inReg r) ∨ o = .inF ∨ o = .rld ∨ o = .rrd ∨
    (∃ d rep, o = .blockLd d rep) ∨ (∃ d rep, o = .blockCp d rep) ∨ (∃ d rep, o = .blockIn d rep) ∨
    (∃ d rep, o = .blockOut d rep)) ∧
  (∀ (ii : Idx) (o : IdxOp), (Op.idx ii o).writesF = true ↔
    (∃ k x, o = .aluHalf k x) ∨ (∃ k d, o = .aluMem k d) ∨ (∃ x, o = .incHalf x) ∨ (∃ x, o = .decHalf x) ∨
    (∃ d, o = .incMem d) ∨ (∃ d, o = .decMem d) ∨ (∃ p, o = .add p)) ∧
  (∀ (ii : Idx) (d : Byte) (o : IdxCbOp), (Op.idxCb ii d o).writesF = true ↔
    (∃ k copy, o = .rot k copy) ∨ (∃ b z, o = .bit b z)) ∧
  (∀ (ii jj : Idx) (o : BaseOp) (e : EdOp), (Op.ignored ii o).writesF = (Op.base o).writesF ∧
    (Op.ignoredEd ii e).writesF = (Op.ed e).writesF ∧ (Op.redundant ii jj).writesF = false) ∧
  (∀ f : Byte,
    FlagsAre f (f.getLsbD 7) (f.getLsbD 6) (f.getLsbD 5) (f.getLsbD 4) (f.getLsbD 3) (f.getLsbD 2) (f.getLsbD 1)
      (f.getLsbD 0) ∧
    parity f = decide (((List.range 8).filter fun k => f.getLsbD k).length % 2 = 0))

/-- A byte of memory changes only where the instruction calls write_mem, and the calls only grow (R53, R58). Memory is a
RAM by the model's choice (log 1). -/
def Obligations.MemoryOnlyByWriteMem : Prop :=
  ∀ (i : Instr) (s t : State), exec i s = .next t →
    ∃ more, t.calls = s.calls ++ more ∧
      ∀ x, t.peek x ≠ s.peek x → ∃ v, BusCall.writeMem x v ∈ more

/-- R counts the step's M1 cycles in its low seven bits and keeps bit 7 (R14, R30): in a step that executes an instruction
other than LD R,A those of R91's table, one fewer when its prefix was pending (R267; as log 15 reads R72), and in a step that
accepts an interrupt or idles one. Memory is a RAM by the model's choice (log 1). -/
def Obligations.RefreshCountsFetches : Prop :=
  (∀ (s t : State) (d : Decoded), s.Executes → decode s.pendingPrefix (s.bytesAt s.pc 5) = .ok d →
    step s = .next t → d.instr.op ≠ .ed .ldRA → (∀ ii, d.instr.op ≠ .ignoredEd ii .ldRA) →
    t.r = bumpRefresh (stepM1 s.pendingPrefix d.instr) s.r) ∧
  (∀ s t : State, ¬ s.Executes → step s = .next t → t.r = bumpRefresh 1 s.r) ∧
  (∀ (i : Instr) (ii : Idx), stepM1 none i = i.op.m1 ∧ stepM1 (some ii) i = i.op.m1 - 1) ∧
  (∀ (ii jj : Idx) (d : Byte) (o : BaseOp) (c : CbOp) (e : EdOp) (x : IdxOp) (y : IdxCbOp),
    (Op.base o).m1 = 1 ∧ (Op.cb c).m1 = 2 ∧ (Op.ed e).m1 = 2 ∧ (Op.idx ii x).m1 = 2 ∧ (Op.ignored ii o).m1 = 2 ∧
    (Op.idxCb ii d y).m1 = 2 ∧ (Op.ignoredEd ii e).m1 = 3 ∧ (Op.redundant ii jj).m1 = 2) ∧
  (∀ (k : Nat) (r : Byte), (bumpRefresh k r).getLsbD 7 = r.getLsbD 7 ∧
    (bumpRefresh k r).toNat % 128 = (r.toNat + k) % 128)

/-! The register file (R20 to R23, R38, R76, R77, R83). -/

/-- Which register each field and each host accessor names, and that writing one gives it the value and leaves every other
one as it was: the 8-bit registers, the pairs and SP, the PUSH and POP pairs, the address pairs, IX and IY, their halves, the
register fields under an index prefix (R83) and the register copy (R208, R221); then the accessors of R38 (log 20), where a
pair and its halves are one storage (R21, R23). The host's calls are functions beside the step (log 13). -/
def Obligations.RegisterFile : Prop :=
  (∀ k : Bank, k.get .b = k.b ∧ k.get .c = k.c ∧ k.get .d = k.d ∧ k.get .e = k.e ∧ k.get .h = k.h ∧
    k.get .l = k.l ∧ k.get .a = k.a) ∧
  (∀ (k : Bank) (r x : Reg8) (v : Byte),
    (k.set r v).f = k.f ∧ (k.set r v).get x = if x = r then v else k.get x) ∧
  (∀ s : State, s.pair .bc = pack s.main.b s.main.c ∧ s.pair .de = pack s.main.d s.main.e ∧
    s.pair .hl = pack s.main.h s.main.l ∧ s.pair .sp = s.sp ∧ s.stackPair .bc = pack s.main.b s.main.c ∧
    s.stackPair .de = pack s.main.d s.main.e ∧ s.stackPair .hl = pack s.main.h s.main.l ∧
    s.stackPair .af = pack s.main.a s.main.f ∧ s.idx .ix = s.ix ∧ s.idx .iy = s.iy) ∧
  (∀ (s : State) (p x : Pair) (v : Word),
    (s.setPair p v).pair x = (if x = p then v else s.pair x) ∧ (s.setPair p v).main.a = s.main.a ∧
    (s.setPair p v).main.f = s.main.f ∧
    s.setPair p v = { s with main := (s.setPair p v).main, sp := (s.setPair p v).sp }) ∧
  (∀ (s : State) (q x : StackPair) (v : Word),
    (s.setStackPair q v).stackPair x = (if x = q then v else s.stackPair x) ∧
    s.setStackPair q v = { s with main := (s.setStackPair q v).main }) ∧
  (∀ (s : State) (ii jj : Idx) (v : Word),
    (s.setIdx ii v).idx jj = (if jj = ii then v else s.idx jj) ∧
    s.setIdx ii v = { s with ix := (s.setIdx ii v).ix, iy := (s.setIdx ii v).iy }) ∧
  (∀ (s : State) (ii jj : Idx) (x y : Half) (v : Byte),
    (s.setHalf ii x v).half jj y = (if jj = ii ∧ y = x then v else s.half jj y) ∧
    s.idx jj = pack (s.half jj .high) (s.half jj .low) ∧
    s.setHalf ii x v = { s with ix := (s.setHalf ii x v).ix, iy := (s.setHalf ii x v).iy }) ∧
  (∀ h l : Byte, (pack h l).toNat = 256 * h.toNat + l.toNat ∧ hiByte (pack h l) = h ∧ loByte (pack h l) = l) ∧
  (∀ s : State, s.addrPair .bc = pack s.main.b s.main.c ∧ s.addrPair .de = pack s.main.d s.main.e) ∧
  (∀ (s : State) (ii : Idx) (r : Reg8) (v : Byte),
    s.idxReg ii r = (if r = .h then s.half ii .high else if r = .l then s.half ii .low else s.main.get r) ∧
    s.setIdxReg ii r v =
      (if r = .h then s.setHalf ii .high v else if r = .l then s.setHalf ii .low v
       else { s with main := s.main.set r v }) ∧
    s.copyTo none v = s ∧ s.copyTo (some r) v = { s with main := s.main.set r v }) ∧
  (∀ s : State,
    s.get8 .a = s.main.a ∧ s.get8 .f = s.main.f ∧ s.get8 .b = s.main.b ∧ s.get8 .c = s.main.c ∧
    s.get8 .d = s.main.d ∧ s.get8 .e = s.main.e ∧ s.get8 .h = s.main.h ∧ s.get8 .l = s.main.l ∧
    s.get8 .a' = s.alt.a ∧ s.get8 .f' = s.alt.f ∧ s.get8 .b' = s.alt.b ∧ s.get8 .c' = s.alt.c ∧
    s.get8 .d' = s.alt.d ∧ s.get8 .e' = s.alt.e ∧ s.get8 .h' = s.alt.h ∧ s.get8 .l' = s.alt.l ∧
    s.get8 .i = s.i ∧ s.get8 .r = s.r ∧
    s.get16 .af = pack (s.get8 .a) (s.get8 .f) ∧ s.get16 .bc = pack (s.get8 .b) (s.get8 .c) ∧
    s.get16 .de = pack (s.get8 .d) (s.get8 .e) ∧ s.get16 .hl = pack (s.get8 .h) (s.get8 .l) ∧
    s.get16 .af' = pack (s.get8 .a') (s.get8 .f') ∧ s.get16 .bc' = pack (s.get8 .b') (s.get8 .c') ∧
    s.get16 .de' = pack (s.get8 .d') (s.get8 .e') ∧ s.get16 .hl' = pack (s.get8 .h') (s.get8 .l') ∧
    s.get16 .ix = s.ix ∧ s.get16 .iy = s.iy ∧ s.get16 .ix = pack (s.get8 .ixh) (s.get8 .ixl) ∧
    s.get16 .iy = pack (s.get8 .iyh) (s.get8 .iyl) ∧ s.get16 .sp = s.sp ∧ s.get16 .pc = s.pc ∧
    s.get16 .memptr = s.memptr ∧
    s.getBit .iff1 = s.iff1 ∧ s.getBit .iff2 = s.iff2 ∧ s.getBit .halted = s.halted ∧
    s.getBit .intLatch = s.intLatch ∧ s.getBit .nmiLatch = s.nmiLatch ∧ s.getBit .eiDelay = s.eiDelay ∧
    s.getBit .q = s.q) ∧
  (∀ (s : State) (n m : Name8) (v : Byte),
    (s.set8 n v).get8 m = (if m = n then v else s.get8 m) ∧
    s.set8 n v = { s with main := (s.set8 n v).main, alt := (s.set8 n v).alt, ix := (s.set8 n v).ix,
                          iy := (s.set8 n v).iy, i := (s.set8 n v).i, r := (s.set8 n v).r }) ∧
  (∀ (s : State) (n m : Name16) (v : Word),
    (s.set16 n v).get16 m = (if m = n then v else s.get16 m) ∧
    s.set16 n v = { s with main := (s.set16 n v).main, alt := (s.set16 n v).alt, ix := (s.set16 n v).ix,
                           iy := (s.set16 n v).iy, sp := (s.set16 n v).sp, pc := (s.set16 n v).pc,
                           memptr := (s.set16 n v).memptr }) ∧
  (∀ (s : State) (n m : NameBit) (v : Bool),
    (s.setFlag n v).getBit m = (if m = n then v else s.getBit m) ∧
    s.setFlag n v = { s with iff1 := (s.setFlag n v).iff1, iff2 := (s.setFlag n v).iff2,
                             halted := (s.setFlag n v).halted, intLatch := (s.setFlag n v).intLatch,
                             nmiLatch := (s.setFlag n v).nmiLatch, eiDelay := (s.setFlag n v).eiDelay,
                             q := (s.setFlag n v).q }) ∧
  (∀ (s : State) (m : IntMode) (p : Option Idx),
    s.setIm m = { s with im := m } ∧ s.setPendingPrefix p = { s with pendingPrefix := p })

/-! 8-bit loads (file 40). -/

/-- LD r,r', LD r,n and the forms with index halves. -/
def Obligations.RegisterLoads : Prop :=
  (∀ (i : Instr) (dst src : Reg8) (s : State), i.op = .base (.ldRegReg dst src) →
    exec i s = .next { s with main := s.main.set dst (s.main.get src), cycles := 4 }) ∧
  (∀ (i : Instr) (r : Reg8) (n : Byte) (s : State), i.op = .base (.ldRegN r n) →
    exec i s = .next { s with main := s.main.set r n, cycles := 7 }) ∧
  (∀ (i : Instr) (ii : Idx) (dst src : Reg8) (s : State), i.op = .idx ii (.ldRegReg dst src) →
    exec i s = .next { s.setIdxReg ii dst (s.idxReg ii src) with cycles := 8 }) ∧
  (∀ (i : Instr) (ii : Idx) (x : Half) (n : Byte) (s : State), i.op = .idx ii (.ldHalfN x n) →
    exec i s = .next { s.setHalf ii x n with cycles := 11 })

/-- LD r,(HL), LD A,(rr), LD A,(nn) and LD r,(ii+d). Memory is a RAM by the model's choice (log 1). -/
def Obligations.LoadsFromMemory : Prop :=
  (∀ (i : Instr) (r : Reg8) (s : State), i.op = .base (.ldRegMem r) →
    exec i s = .next
      { s with main := s.main.set r (s.peek s.hl), calls := s.calls ++ [.readMem s.hl (s.peek s.hl)], cycles := 7 }) ∧
  (∀ (i : Instr) (rr : AddrPair) (s : State), i.op = .base (.ldA rr) →
    exec i s = .next
      { s with
        main := { s.main with a := s.peek (s.addrPair rr) }, memptr := s.addrPair rr + 1#16,
        calls := s.calls ++ [.readMem (s.addrPair rr) (s.peek (s.addrPair rr))], cycles := 7 }) ∧
  (∀ (i : Instr) (nn : Word) (s : State), i.op = .base (.ldAAbs nn) →
    exec i s = .next
      { s with
        main := { s.main with a := s.peek nn }, memptr := nn + 1#16,
        calls := s.calls ++ [.readMem nn (s.peek nn)], cycles := 13 }) ∧
  (∀ (i : Instr) (ii : Idx) (r : Reg8) (d : Byte) (s : State), i.op = .idx ii (.ldRegMem r d) →
    ∃ ea, ea = s.idx ii + d.signExtend 16 ∧
      exec i s = .next
        { s with
          main := s.main.set r (s.peek ea), memptr := ea, calls := s.calls ++ [.readMem ea (s.peek ea)],
          cycles := 19 })

/-- LD (HL),r, LD (HL),n, LD (rr),A, LD (nn),A, LD (ii+d),r and LD (ii+d),n: one byte is stored. Memory is a RAM by the
model's choice (log 1). -/
def Obligations.StoresToMemory : Prop :=
  (∀ (i : Instr) (r : Reg8) (s : State), i.op = .base (.ldMemReg r) →
    ∃ t, exec i s = .next t ∧ Stored s t s.hl (s.main.get r) ∧
      t = { s with mem := t.mem, calls := s.calls ++ [.writeMem s.hl (s.main.get r)], cycles := 7 }) ∧
  (∀ (i : Instr) (n : Byte) (s : State), i.op = .base (.ldMemN n) →
    ∃ t, exec i s = .next t ∧ Stored s t s.hl n ∧
      t = { s with mem := t.mem, calls := s.calls ++ [.writeMem s.hl n], cycles := 10 }) ∧
  (∀ (i : Instr) (rr : AddrPair) (s : State), i.op = .base (.stA rr) →
    ∃ t, exec i s = .next t ∧ Stored s t (s.addrPair rr) s.main.a ∧
      t = { s with
            mem := t.mem, memptr := pack s.main.a (loByte (s.addrPair rr) + 1#8),
            calls := s.calls ++ [.writeMem (s.addrPair rr) s.main.a], cycles := 7 }) ∧
  (∀ (i : Instr) (nn : Word) (s : State), i.op = .base (.stAAbs nn) →
    ∃ t, exec i s = .next t ∧ Stored s t nn s.main.a ∧
      t = { s with
            mem := t.mem, memptr := pack s.main.a (loByte nn + 1#8),
            calls := s.calls ++ [.writeMem nn s.main.a], cycles := 13 }) ∧
  (∀ (i : Instr) (ii : Idx) (d : Byte) (r : Reg8) (s : State), i.op = .idx ii (.ldMemReg d r) →
    ∃ t ea, ea = s.idx ii + d.signExtend 16 ∧ exec i s = .next t ∧ Stored s t ea (s.main.get r) ∧
      t = { s with
            mem := t.mem, memptr := ea, calls := s.calls ++ [.writeMem ea (s.main.get r)], cycles := 19 }) ∧
  (∀ (i : Instr) (ii : Idx) (d n : Byte) (s : State), i.op = .idx ii (.ldMemN d n) →
    ∃ t ea, ea = s.idx ii + d.signExtend 16 ∧ exec i s = .next t ∧ Stored s t ea n ∧
      t = { s with mem := t.mem, memptr := ea, calls := s.calls ++ [.writeMem ea n], cycles := 19 })

/-- LD A,I, LD A,R, LD I,A and LD R,A. -/
def Obligations.InterruptRegisterLoads : Prop :=
  (∀ (i : Instr) (s : State), i.op = .ed .ldAI →
    ∃ f, FlagsAre f (s.i.getLsbD 7) (s.i == 0#8) (s.i.getLsbD 5) false (s.i.getLsbD 3) s.iff2 false (flagC s.main.f) ∧
      exec i s = .next { s with main := { s.main with a := s.i, f := f }, cycles := 9 }) ∧
  (∀ (i : Instr) (s : State), i.op = .ed .ldAR →
    ∃ f, FlagsAre f (s.r.getLsbD 7) (s.r == 0#8) (s.r.getLsbD 5) false (s.r.getLsbD 3) s.iff2 false (flagC s.main.f) ∧
      exec i s = .next { s with main := { s.main with a := s.r, f := f }, cycles := 9 }) ∧
  (∀ (i : Instr) (s : State), i.op = .ed .ldIA → exec i s = .next { s with i := s.main.a, cycles := 9 }) ∧
  (∀ (i : Instr) (s : State), i.op = .ed .ldRA → exec i s = .next { s with r := s.main.a, cycles := 9 })

/-! 16-bit loads, stack and exchanges (file 41). -/

/-- The loads of a pair, an index register and SP. Memory is a RAM by the model's choice (log 1). -/
def Obligations.PairLoads : Prop :=
  (∀ (i : Instr) (p : Pair) (nn : Word) (s : State), i.op = .base (.ldPairN p nn) →
    exec i s = .next { s.setPair p nn with cycles := 10 }) ∧
  (∀ (i : Instr) (ii : Idx) (nn : Word) (s : State), i.op = .idx ii (.ldN nn) →
    exec i s = .next { s.setIdx ii nn with cycles := 14 }) ∧
  (∀ (i : Instr) (nn : Word) (s : State), i.op = .base (.ldHl nn) →
    exec i s = .next
      { s.setHl (pack (s.peek (nn + 1#16)) (s.peek nn)) with
        memptr := nn + 1#16,
        calls := s.calls ++ [.readMem nn (s.peek nn), .readMem (nn + 1#16) (s.peek (nn + 1#16))], cycles := 16 }) ∧
  (∀ (i : Instr) (p : Pair) (nn : Word) (s : State), i.op = .ed (.ldPair p nn) →
    exec i s = .next
      { s.setPair p (pack (s.peek (nn + 1#16)) (s.peek nn)) with
        memptr := nn + 1#16,
        calls := s.calls ++ [.readMem nn (s.peek nn), .readMem (nn + 1#16) (s.peek (nn + 1#16))], cycles := 20 }) ∧
  (∀ (i : Instr) (ii : Idx) (nn : Word) (s : State), i.op = .idx ii (.ld nn) →
    exec i s = .next
      { s.setIdx ii (pack (s.peek (nn + 1#16)) (s.peek nn)) with
        memptr := nn + 1#16,
        calls := s.calls ++ [.readMem nn (s.peek nn), .readMem (nn + 1#16) (s.peek (nn + 1#16))], cycles := 20 }) ∧
  (∀ (i : Instr) (s : State), i.op = .base .ldSpHl → exec i s = .next { s with sp := s.hl, cycles := 6 }) ∧
  (∀ (i : Instr) (ii : Idx) (s : State), i.op = .idx ii .ldSp →
    exec i s = .next { s with sp := s.idx ii, cycles := 10 })

/-- The stores of a pair and an index register: two bytes, the low one at nn. Memory is a RAM by the model's choice (log
1). -/
def Obligations.PairStores : Prop :=
  (∀ (i : Instr) (nn : Word) (s : State), i.op = .base (.stHl nn) →
    ∃ t, exec i s = .next t ∧ Stored2 s t nn s.main.l (nn + 1#16) s.main.h ∧
      t = { s with
            mem := t.mem, memptr := nn + 1#16,
            calls := s.calls ++ [.writeMem nn s.main.l, .writeMem (nn + 1#16) s.main.h], cycles := 16 }) ∧
  (∀ (i : Instr) (nn : Word) (p : Pair) (s : State), i.op = .ed (.stPair nn p) →
    ∃ t, exec i s = .next t ∧ Stored2 s t nn (loByte (s.pair p)) (nn + 1#16) (hiByte (s.pair p)) ∧
      t = { s with
            mem := t.mem, memptr := nn + 1#16,
            calls := s.calls ++
              [.writeMem nn (loByte (s.pair p)), .writeMem (nn + 1#16) (hiByte (s.pair p))], cycles := 20 }) ∧
  (∀ (i : Instr) (ii : Idx) (nn : Word) (s : State), i.op = .idx ii (.st nn) →
    ∃ t, exec i s = .next t ∧ Stored2 s t nn (loByte (s.idx ii)) (nn + 1#16) (hiByte (s.idx ii)) ∧
      t = { s with
            mem := t.mem, memptr := nn + 1#16,
            calls := s.calls ++
              [.writeMem nn (loByte (s.idx ii)), .writeMem (nn + 1#16) (hiByte (s.idx ii))], cycles := 20 })

/-- PUSH, and POP, of a pair and of an index register. Memory is a RAM by the model's choice (log 1). -/
def Obligations.PushAndPop : Prop :=
  (∀ (i : Instr) (q : StackPair) (s : State), i.op = .base (.push q) →
    ∃ t, exec i s = .next t ∧
      Stored2 s t (s.sp - 1#16) (hiByte (s.stackPair q)) (s.sp - 2#16) (loByte (s.stackPair q)) ∧
      t = { s with
            mem := t.mem, sp := s.sp - 2#16,
            calls := s.calls ++ [.writeMem (s.sp - 1#16) (hiByte (s.stackPair q)),
              .writeMem (s.sp - 2#16) (loByte (s.stackPair q))], cycles := 11 }) ∧
  (∀ (i : Instr) (ii : Idx) (s : State), i.op = .idx ii .push →
    ∃ t, exec i s = .next t ∧
      Stored2 s t (s.sp - 1#16) (hiByte (s.idx ii)) (s.sp - 2#16) (loByte (s.idx ii)) ∧
      t = { s with
            mem := t.mem, sp := s.sp - 2#16,
            calls := s.calls ++ [.writeMem (s.sp - 1#16) (hiByte (s.idx ii)),
              .writeMem (s.sp - 2#16) (loByte (s.idx ii))], cycles := 15 }) ∧
  (∀ (i : Instr) (q : StackPair) (s : State), i.op = .base (.pop q) →
    exec i s = .next
      { s.setStackPair q (pack (s.peek (s.sp + 1#16)) (s.peek s.sp)) with
        sp := s.sp + 2#16,
        calls := s.calls ++
          [.readMem s.sp (s.peek s.sp), .readMem (s.sp + 1#16) (s.peek (s.sp + 1#16))], cycles := 10 }) ∧
  (∀ (i : Instr) (ii : Idx) (s : State), i.op = .idx ii .pop →
    exec i s = .next
      { s.setIdx ii (pack (s.peek (s.sp + 1#16)) (s.peek s.sp)) with
        sp := s.sp + 2#16,
        calls := s.calls ++
          [.readMem s.sp (s.peek s.sp), .readMem (s.sp + 1#16) (s.peek (s.sp + 1#16))], cycles := 14 })

/-- EX AF,AF', EXX and EX DE,HL. -/
def Obligations.RegisterExchanges : Prop :=
  (∀ (i : Instr) (s : State), i.op = .base .exAfAf →
    exec i s = .next
      { s with
        main := ⟨s.alt.a, s.alt.f, s.main.b, s.main.c, s.main.d, s.main.e, s.main.h, s.main.l⟩,
        alt := ⟨s.main.a, s.main.f, s.alt.b, s.alt.c, s.alt.d, s.alt.e, s.alt.h, s.alt.l⟩, cycles := 4 }) ∧
  (∀ (i : Instr) (s : State), i.op = .base .exx →
    exec i s = .next
      { s with
        main := ⟨s.main.a, s.main.f, s.alt.b, s.alt.c, s.alt.d, s.alt.e, s.alt.h, s.alt.l⟩,
        alt := ⟨s.alt.a, s.alt.f, s.main.b, s.main.c, s.main.d, s.main.e, s.main.h, s.main.l⟩, cycles := 4 }) ∧
  (∀ (i : Instr) (s : State), i.op = .base .exDeHl →
    exec i s = .next
      { s with
        main := ⟨s.main.a, s.main.f, s.main.b, s.main.c, s.main.h, s.main.l, s.main.d, s.main.e⟩, cycles := 4 })

/-- EX (SP),HL and EX (SP),ii: SP stays, and the two bytes at it are exchanged with the register. Memory is a RAM by the
model's choice (log 1). -/
def Obligations.StackTopExchanges : Prop :=
  (∀ (i : Instr) (s : State), i.op = .base .exSpHl →
    ∃ t w, w = pack (s.peek (s.sp + 1#16)) (s.peek s.sp) ∧ exec i s = .next t ∧
      Stored2 s t s.sp s.main.l (s.sp + 1#16) s.main.h ∧
      t = { s.setHl w with
            mem := t.mem, memptr := w,
            calls := s.calls ++
              [.readMem s.sp (s.peek s.sp), .readMem (s.sp + 1#16) (s.peek (s.sp + 1#16)),
               .writeMem (s.sp + 1#16) s.main.h, .writeMem s.sp s.main.l], cycles := 19 }) ∧
  (∀ (i : Instr) (ii : Idx) (s : State), i.op = .idx ii .exSp →
    ∃ t w, w = pack (s.peek (s.sp + 1#16)) (s.peek s.sp) ∧ exec i s = .next t ∧
      Stored2 s t s.sp (loByte (s.idx ii)) (s.sp + 1#16) (hiByte (s.idx ii)) ∧
      t = { s.setIdx ii w with
            mem := t.mem, memptr := w,
            calls := s.calls ++
              [.readMem s.sp (s.peek s.sp), .readMem (s.sp + 1#16) (s.peek (s.sp + 1#16)),
               .writeMem (s.sp + 1#16) (hiByte (s.idx ii)), .writeMem s.sp (loByte (s.idx ii))], cycles := 23 })

/-! Block instructions (file 42). -/

/-- LDI, LDD, LDIR and LDDR: one byte moved, one iteration. Y and X of a repeating iteration come from the rewound PC
under `pc_based`. Memory is a RAM by the model's choice (log 1). -/
def Obligations.BlockTransfers : Prop :=
  ∀ (i : Instr) (d : Dir) (rep : Bool) (s : State), i.op = .ed (.blockLd d rep) →
    ∃ t v bc more again, v = s.peek s.hl ∧ bc = s.bc - 1#16 ∧ more = decide (bc ≠ 0#16) ∧ again = (rep && more) ∧
      exec i s = .next t ∧ Stored s t s.de v ∧
      FlagsAre t.main.f (flagS s.main.f) (flagZ s.main.f)
        (if again && decide (s.params.blockRepeatFlags = .pcBased) then (s.pc - 2#16).getLsbD 13
          else (v + s.main.a).getLsbD 1) false
        (if again && decide (s.params.blockRepeatFlags = .pcBased) then (s.pc - 2#16).getLsbD 11
          else (v + s.main.a).getLsbD 3) more false (flagC s.main.f) ∧
      t.main.a = s.main.a ∧ t.bc = bc ∧
      t.hl = (if d = .inc then s.hl + 1#16 else s.hl - 1#16) ∧
      t.de = (if d = .inc then s.de + 1#16 else s.de - 1#16) ∧
      t = { s with
            main := t.main, mem := t.mem, pc := if again then s.pc - 2#16 else s.pc,
            memptr := if again then s.pc - 2#16 + 1#16 else s.memptr,
            calls := s.calls ++ [.readMem s.hl v, .writeMem s.de v],
            cycles := if again then 21 else 16 }

/-- CPI, CPD, CPIR and CPDR: one comparison, one iteration; A is not written. Memory is a RAM by the model's choice (log
1). -/
def Obligations.BlockSearches : Prop :=
  ∀ (i : Instr) (d : Dir) (rep : Bool) (s : State), i.op = .ed (.blockCp d rep) →
    ∃ t v bc r hf n more again, v = s.peek s.hl ∧ bc = s.bc - 1#16 ∧ r = s.main.a - v ∧
      hf = decide (s.main.a.toNat % 16 < v.toNat % 16) ∧ n = r - (if hf then 1#8 else 0#8) ∧
      more = decide (bc ≠ 0#16) ∧ again = (rep && more && decide (r ≠ 0#8)) ∧
      exec i s = .next t ∧
      FlagsAre t.main.f (r.getLsbD 7) (r == 0#8)
        (if again && decide (s.params.blockRepeatFlags = .pcBased) then (s.pc - 2#16).getLsbD 13
          else n.getLsbD 1) hf
        (if again && decide (s.params.blockRepeatFlags = .pcBased) then (s.pc - 2#16).getLsbD 11
          else n.getLsbD 3) more true (flagC s.main.f) ∧
      t.main.a = s.main.a ∧ t.bc = bc ∧ t.de = s.de ∧
      t.hl = (if d = .inc then s.hl + 1#16 else s.hl - 1#16) ∧
      t = { s with
            main := t.main, pc := if again then s.pc - 2#16 else s.pc,
            memptr := if again then s.pc - 2#16 + 1#16
              else if d = .inc then s.memptr + 1#16 else s.memptr - 1#16,
            calls := s.calls ++ [.readMem s.hl v], cycles := if again then 21 else 16 }

/-- INI, IND, INIR and INDR: the port is the C of BC before B is decremented, and the byte goes to (HL). Memory is a RAM
by the model's choice (log 1). Past the host's script the byte is a free value (log 3). -/
def Obligations.BlockInputs : Prop :=
  ∀ (i : Instr) (d : Dir) (rep : Bool) (s : State), i.op = .ed (.blockIn d rep) →
    ∃ t v b k again, v = s.ioAnswers.headD (Config.freeIoByte s.draws) ∧ b = s.main.b - 1#8 ∧
      k = v.toNat + (if d = .inc then s.main.c + 1#8 else s.main.c - 1#8).toNat ∧
      again = (rep && decide (b ≠ 0#8)) ∧ exec i s = .next t ∧ Stored s t s.hl v ∧
      BlockIoFlagsAre t.main.f b v k (again && decide (s.params.blockRepeatFlags = .pcBased)) (s.pc - 2#16) ∧
      t.main.a = s.main.a ∧ t.main.b = b ∧ t.main.c = s.main.c ∧ t.de = s.de ∧
      t.hl = (if d = .inc then s.hl + 1#16 else s.hl - 1#16) ∧
      t = { s with
            main := t.main, mem := t.mem, pc := if again then s.pc - 2#16 else s.pc,
            memptr := if d = .inc then s.bc + 1#16 else s.bc - 1#16,
            ioAnswers := s.ioAnswers.tail, draws := if s.ioAnswers.isEmpty then s.draws + 1 else s.draws,
            calls := s.calls ++ [.readIo s.main.c v, .writeMem s.hl v],
            cycles := if again then 21 else 16 }

/-- OUTI, OUTD, OTIR and OTDR: the port is C, with B already decremented, and L after HL's update enters the flags.
Memory is a RAM by the model's choice (log 1). -/
def Obligations.BlockOutputs : Prop :=
  ∀ (i : Instr) (d : Dir) (rep : Bool) (s : State), i.op = .ed (.blockOut d rep) →
    ∃ t v b hl k again, v = s.peek s.hl ∧ b = s.main.b - 1#8 ∧
      hl = (if d = .inc then s.hl + 1#16 else s.hl - 1#16) ∧ k = v.toNat + (loByte hl).toNat ∧
      again = (rep && decide (b ≠ 0#8)) ∧ exec i s = .next t ∧
      BlockIoFlagsAre t.main.f b v k (again && decide (s.params.blockRepeatFlags = .pcBased)) (s.pc - 2#16) ∧
      t.main.a = s.main.a ∧ t.main.b = b ∧ t.main.c = s.main.c ∧ t.de = s.de ∧ t.hl = hl ∧
      t = { s with
            main := t.main, pc := if again then s.pc - 2#16 else s.pc,
            memptr := if d = .inc then pack b s.main.c + 1#16 else pack b s.main.c - 1#16,
            calls := s.calls ++ [.readMem s.hl v, .writeIo s.main.c v],
            cycles := if again then 21 else 16 }

/-! 8-bit arithmetic and logic (file 43). -/

/-- ADD, ADC, SUB, SBC, AND, XOR, OR and CP on every source: A and F take the result and flags of `alu8`. Memory is a
RAM by the model's choice (log 1). -/
def Obligations.AluSources : Prop :=
  (∀ (i : Instr) (k : Alu) (r : Reg8) (s : State), i.op = .base (.aluReg k r) →
    ∃ v, v = alu8 k s.main.a (s.main.get r) s.main.f ∧
      exec i s = .next { s with main := { s.main with a := v.1, f := v.2 }, cycles := 4 }) ∧
  (∀ (i : Instr) (k : Alu) (n : Byte) (s : State), i.op = .base (.aluN k n) →
    ∃ v, v = alu8 k s.main.a n s.main.f ∧
      exec i s = .next { s with main := { s.main with a := v.1, f := v.2 }, cycles := 7 }) ∧
  (∀ (i : Instr) (k : Alu) (s : State), i.op = .base (.aluMem k) →
    ∃ v, v = alu8 k s.main.a (s.peek s.hl) s.main.f ∧
      exec i s = .next
        { s with
          main := { s.main with a := v.1, f := v.2 }, calls := s.calls ++ [.readMem s.hl (s.peek s.hl)],
          cycles := 7 }) ∧
  (∀ (i : Instr) (ii : Idx) (k : Alu) (x : Half) (s : State), i.op = .idx ii (.aluHalf k x) →
    ∃ v, v = alu8 k s.main.a (s.half ii x) s.main.f ∧
      exec i s = .next { s with main := { s.main with a := v.1, f := v.2 }, cycles := 8 }) ∧
  (∀ (i : Instr) (ii : Idx) (k : Alu) (d : Byte) (s : State), i.op = .idx ii (.aluMem k d) →
    ∃ ea v, ea = s.idx ii + d.signExtend 16 ∧ v = alu8 k s.main.a (s.peek ea) s.main.f ∧
      exec i s = .next
        { s with
          main := { s.main with a := v.1, f := v.2 }, memptr := ea,
          calls := s.calls ++ [.readMem ea (s.peek ea)], cycles := 19 })

/-- The results and flags of ADD, ADC, SUB, SBC, CP, AND, XOR and OR: PV is signed overflow or parity, C and H the carry or
borrow. -/
def Obligations.AluResults : Prop :=
  (∀ (k : Alu) (a v f : Byte) (c : Bool), (k = .add ∧ c = false) ∨ (k = .adc ∧ c = flagC f) →
    ∃ w, w = a + v + (if c then 1#8 else 0#8) ∧ (alu8 k a v f).1 = w ∧
      FlagsAre (alu8 k a v f).2 (w.getLsbD 7) (w == 0#8) (w.getLsbD 5)
        (decide (15 < a.toNat % 16 + v.toNat % 16 + c.toNat)) (w.getLsbD 3)
        (decide (a.toInt + v.toInt + (c.toNat : Int) < -128 ∨ 127 < a.toInt + v.toInt + (c.toNat : Int))) false
        (decide (255 < a.toNat + v.toNat + c.toNat))) ∧
  (∀ (k : Alu) (a v f : Byte) (c : Bool), (k = .sub ∧ c = false) ∨ (k = .sbc ∧ c = flagC f) →
    ∃ w, w = a - v - (if c then 1#8 else 0#8) ∧ (alu8 k a v f).1 = w ∧
      FlagsAre (alu8 k a v f).2 (w.getLsbD 7) (w == 0#8) (w.getLsbD 5)
        (decide (a.toNat % 16 < v.toNat % 16 + c.toNat)) (w.getLsbD 3)
        (decide (a.toInt - v.toInt - (c.toNat : Int) < -128 ∨ 127 < a.toInt - v.toInt - (c.toNat : Int))) true
        (decide (a.toNat < v.toNat + c.toNat))) ∧
  (∀ (a v f : Byte), (alu8 .cp a v f).1 = a ∧
    FlagsAre (alu8 .cp a v f).2 ((a - v).getLsbD 7) (a == v) (v.getLsbD 5)
      (decide (a.toNat % 16 < v.toNat % 16)) (v.getLsbD 3)
      (decide (a.toInt - v.toInt < -128 ∨ 127 < a.toInt - v.toInt)) true (decide (a.toNat < v.toNat))) ∧
  (∀ (a v f : Byte),
    (alu8 .and a v f).1 = a &&& v ∧ (alu8 .xor a v f).1 = a ^^^ v ∧ (alu8 .or a v f).1 = a ||| v ∧
    ∀ k : Alu, k = .and ∨ k = .xor ∨ k = .or →
      ∃ w, w = (alu8 k a v f).1 ∧
        FlagsAre (alu8 k a v f).2 (w.getLsbD 7) (w == 0#8) (w.getLsbD 5) (decide (k = .and)) (w.getLsbD 3)
          (parity w) false false)

/-- INC and DEC of a register and of an index half. -/
def Obligations.RegisterCounting : Prop :=
  (∀ (v f : Byte),
    (inc8 v f).1 = v + 1#8 ∧
    FlagsAre (inc8 v f).2 ((v + 1#8).getLsbD 7) (v + 1#8 == 0#8) ((v + 1#8).getLsbD 5)
      (decide (v.toNat % 16 = 15)) ((v + 1#8).getLsbD 3) (v == 0x7F#8) false (flagC f) ∧
    (dec8 v f).1 = v - 1#8 ∧
    FlagsAre (dec8 v f).2 ((v - 1#8).getLsbD 7) (v - 1#8 == 0#8) ((v - 1#8).getLsbD 5)
      (decide (v.toNat % 16 = 0)) ((v - 1#8).getLsbD 3) (v == 0x80#8) true (flagC f)) ∧
  (∀ (i : Instr) (r : Reg8) (s : State), i.op = .base (.incReg r) →
    exec i s = .next
      { s with
        main := { s.main.set r (s.main.get r + 1#8) with f := (inc8 (s.main.get r) s.main.f).2 }, cycles := 4 }) ∧
  (∀ (i : Instr) (r : Reg8) (s : State), i.op = .base (.decReg r) →
    exec i s = .next
      { s with
        main := { s.main.set r (s.main.get r - 1#8) with f := (dec8 (s.main.get r) s.main.f).2 }, cycles := 4 }) ∧
  (∀ (i : Instr) (ii : Idx) (x : Half) (s : State), i.op = .idx ii (.incHalf x) →
    exec i s = .next
      { s.setHalf ii x (s.half ii x + 1#8) with
        main := { s.main with f := (inc8 (s.half ii x) s.main.f).2 }, cycles := 8 }) ∧
  (∀ (i : Instr) (ii : Idx) (x : Half) (s : State), i.op = .idx ii (.decHalf x) →
    exec i s = .next
      { s.setHalf ii x (s.half ii x - 1#8) with
        main := { s.main with f := (dec8 (s.half ii x) s.main.f).2 }, cycles := 8 })

/-- INC and DEC of (HL) and (ii+d): one read and one write of the same byte. Memory is a RAM by the model's choice (log
1). -/
def Obligations.MemoryCounting : Prop :=
  (∀ (i : Instr) (s : State), i.op = .base .incMem →
    ∃ t v, v = s.peek s.hl ∧ exec i s = .next t ∧ Stored s t s.hl (v + 1#8) ∧
      t = { s with
            mem := t.mem, main := { s.main with f := (inc8 v s.main.f).2 },
            calls := s.calls ++ [.readMem s.hl v, .writeMem s.hl (v + 1#8)], cycles := 11 }) ∧
  (∀ (i : Instr) (s : State), i.op = .base .decMem →
    ∃ t v, v = s.peek s.hl ∧ exec i s = .next t ∧ Stored s t s.hl (v - 1#8) ∧
      t = { s with
            mem := t.mem, main := { s.main with f := (dec8 v s.main.f).2 },
            calls := s.calls ++ [.readMem s.hl v, .writeMem s.hl (v - 1#8)], cycles := 11 }) ∧
  (∀ (i : Instr) (ii : Idx) (d : Byte) (s : State), i.op = .idx ii (.incMem d) →
    ∃ t ea v, ea = s.idx ii + d.signExtend 16 ∧ v = s.peek ea ∧ exec i s = .next t ∧ Stored s t ea (v + 1#8) ∧
      t = { s with
            mem := t.mem, memptr := ea, main := { s.main with f := (inc8 v s.main.f).2 },
            calls := s.calls ++ [.readMem ea v, .writeMem ea (v + 1#8)], cycles := 23 }) ∧
  (∀ (i : Instr) (ii : Idx) (d : Byte) (s : State), i.op = .idx ii (.decMem d) →
    ∃ t ea v, ea = s.idx ii + d.signExtend 16 ∧ v = s.peek ea ∧ exec i s = .next t ∧ Stored s t ea (v - 1#8) ∧
      t = { s with
            mem := t.mem, memptr := ea, main := { s.main with f := (dec8 v s.main.f).2 },
            calls := s.calls ++ [.readMem ea v, .writeMem ea (v - 1#8)], cycles := 23 })

/-- DAA, CPL and NEG in every encoding; SCF and CCF, with Y and X under both values of `SCF_CCF_YX`. -/
def Obligations.AccumulatorAndCarry : Prop :=
  (∀ (i : Instr) (s : State), i.op = .base .daa →
    ∃ lo hi adj w f, lo = (flagH s.main.f || decide (9 < s.main.a.toNat % 16)) ∧
      hi = (flagC s.main.f || decide (0x99 < s.main.a.toNat)) ∧
      adj = (if lo then 0x06#8 else 0x00#8) + (if hi then 0x60#8 else 0x00#8) ∧
      w = (if flagN s.main.f then s.main.a - adj else s.main.a + adj) ∧
      FlagsAre f (w.getLsbD 7) (w == 0#8) (w.getLsbD 5) ((s.main.a ^^^ w).getLsbD 4) (w.getLsbD 3) (parity w)
        (flagN s.main.f) hi ∧
      exec i s = .next { s with main := { s.main with a := w, f := f }, cycles := 4 }) ∧
  (∀ (i : Instr) (s : State), i.op = .base .cpl →
    ∃ w f, w = ~~~s.main.a ∧
      FlagsAre f (flagS s.main.f) (flagZ s.main.f) (w.getLsbD 5) true (w.getLsbD 3) (flagPV s.main.f) true
        (flagC s.main.f) ∧
      exec i s = .next { s with main := { s.main with a := w, f := f }, cycles := 4 }) ∧
  (∀ (i : Instr) (y : BitVec 3) (s : State), i.op = .ed (.neg y) →
    ∃ w f, w = 0#8 - s.main.a ∧
      FlagsAre f (w.getLsbD 7) (w == 0#8) (w.getLsbD 5) (decide (s.main.a.toNat % 16 ≠ 0)) (w.getLsbD 3)
        (s.main.a == 0x80#8) true (s.main.a != 0#8) ∧
      exec i s = .next { s with main := { s.main with a := w, f := f }, cycles := 8 }) ∧
  (∀ (i : Instr) (s : State), i.op = .base .scf →
    ∃ f, FlagsAre f (flagS s.main.f) (flagZ s.main.f)
        (s.main.a.getLsbD 5 || (decide (s.params.scfCcfYx = .qModel) && flagY s.main.f && !s.q)) false
        (s.main.a.getLsbD 3 || (decide (s.params.scfCcfYx = .qModel) && flagX s.main.f && !s.q))
        (flagPV s.main.f) false true ∧
      exec i s = .next { s with main := { s.main with f := f }, cycles := 4 }) ∧
  (∀ (i : Instr) (s : State), i.op = .base .ccf →
    ∃ f, FlagsAre f (flagS s.main.f) (flagZ s.main.f)
        (s.main.a.getLsbD 5 || (decide (s.params.scfCcfYx = .qModel) && flagY s.main.f && !s.q)) (flagC s.main.f)
        (s.main.a.getLsbD 3 || (decide (s.params.scfCcfYx = .qModel) && flagX s.main.f && !s.q))
        (flagPV s.main.f) false (!flagC s.main.f) ∧
      exec i s = .next { s with main := { s.main with f := f }, cycles := 4 })

/-- DAA after ADD or SUB of two-digit decimal numbers gives the decimal sum or difference, and the carry. -/
def Obligations.DecimalAdjustIsDecimal : Prop :=
  ∀ x y : Nat, x < 100 → y < 100 →
    ∃ p q : Byte, p = BitVec.ofNat 8 (x / 10 * 16 + x % 10) ∧ q = BitVec.ofNat 8 (y / 10 * 16 + y % 10) ∧
      (daa8 (add8 p q false).1 (add8 p q false).2).1 =
        BitVec.ofNat 8 ((x + y) % 100 / 10 * 16 + (x + y) % 10) ∧
      flagC (daa8 (add8 p q false).1 (add8 p q false).2).2 = decide (100 ≤ x + y) ∧
      (daa8 (sub8 p q false).1 (sub8 p q false).2).1 =
        BitVec.ofNat 8 ((x + 100 - y) % 100 / 10 * 16 + (x + 100 - y) % 10) ∧
      flagC (daa8 (sub8 p q false).1 (sub8 p q false).2).2 = decide (x < y)

/-! 16-bit arithmetic (file 44). -/

/-- ADD HL,rr and ADD ii,rr: S, Z and PV stay. -/
def Obligations.WordAdditions : Prop :=
  (∀ (i : Instr) (p : Pair) (s : State), i.op = .base (.addHl p) →
    ∃ w f, w = s.hl + s.pair p ∧
      FlagsAre f (flagS s.main.f) (flagZ s.main.f) (w.getLsbD 13)
        (decide (0xFFF < s.hl.toNat % 0x1000 + (s.pair p).toNat % 0x1000)) (w.getLsbD 11) (flagPV s.main.f) false
        (decide (0xFFFF < s.hl.toNat + (s.pair p).toNat)) ∧
      exec i s = .next
        { s with
          main := { s.main with h := hiByte w, l := loByte w, f := f }, memptr := s.hl + 1#16, cycles := 11 }) ∧
  (∀ (i : Instr) (ii : Idx) (p : Pair) (s : State), i.op = .idx ii (.add p) →
    ∃ v w f, v = (if p = .hl then s.idx ii else s.pair p) ∧ w = s.idx ii + v ∧
      FlagsAre f (flagS s.main.f) (flagZ s.main.f) (w.getLsbD 13)
        (decide (0xFFF < (s.idx ii).toNat % 0x1000 + v.toNat % 0x1000)) (w.getLsbD 11) (flagPV s.main.f) false
        (decide (0xFFFF < (s.idx ii).toNat + v.toNat)) ∧
      exec i s = .next
        { s.setIdx ii w with main := { s.main with f := f }, memptr := s.idx ii + 1#16, cycles := 15 })

/-- ADC HL,rr and SBC HL,rr: every flag is computed, PV as signed overflow. -/
def Obligations.WordCarryArithmetic : Prop :=
  (∀ (i : Instr) (p : Pair) (s : State), i.op = .ed (.adcHl p) →
    ∃ v c w f, v = s.pair p ∧ c = flagC s.main.f ∧ w = s.hl + v + (if c then 1#16 else 0#16) ∧
      FlagsAre f (w.getLsbD 15) (w == 0#16) (w.getLsbD 13)
        (decide (0xFFF < s.hl.toNat % 0x1000 + v.toNat % 0x1000 + c.toNat)) (w.getLsbD 11)
        (decide (s.hl.toInt + v.toInt + (c.toNat : Int) < -32768 ∨ 32767 < s.hl.toInt + v.toInt + (c.toNat : Int)))
        false (decide (0xFFFF < s.hl.toNat + v.toNat + c.toNat)) ∧
      exec i s = .next
        { s with
          main := { s.main with h := hiByte w, l := loByte w, f := f }, memptr := s.hl + 1#16, cycles := 15 }) ∧
  (∀ (i : Instr) (p : Pair) (s : State), i.op = .ed (.sbcHl p) →
    ∃ v c w f, v = s.pair p ∧ c = flagC s.main.f ∧ w = s.hl - v - (if c then 1#16 else 0#16) ∧
      FlagsAre f (w.getLsbD 15) (w == 0#16) (w.getLsbD 13)
        (decide (s.hl.toNat % 0x1000 < v.toNat % 0x1000 + c.toNat)) (w.getLsbD 11)
        (decide (s.hl.toInt - v.toInt - (c.toNat : Int) < -32768 ∨ 32767 < s.hl.toInt - v.toInt - (c.toNat : Int)))
        true (decide (s.hl.toNat < v.toNat + c.toNat)) ∧
      exec i s = .next
        { s with
          main := { s.main with h := hiByte w, l := loByte w, f := f }, memptr := s.hl + 1#16, cycles := 15 })

/-- INC rr, DEC rr, INC ii and DEC ii: no flag. -/
def Obligations.PairCounting : Prop :=
  (∀ (i : Instr) (p : Pair) (s : State), i.op = .base (.incPair p) →
    exec i s = .next { s.setPair p (s.pair p + 1#16) with cycles := 6 }) ∧
  (∀ (i : Instr) (p : Pair) (s : State), i.op = .base (.decPair p) →
    exec i s = .next { s.setPair p (s.pair p - 1#16) with cycles := 6 }) ∧
  (∀ (i : Instr) (ii : Idx) (s : State), i.op = .idx ii .inc →
    exec i s = .next { s.setIdx ii (s.idx ii + 1#16) with cycles := 10 }) ∧
  (∀ (i : Instr) (ii : Idx) (s : State), i.op = .idx ii .dec →
    exec i s = .next { s.setIdx ii (s.idx ii - 1#16) with cycles := 10 })

/-! Rotates and shifts (file 45). -/

/-- RLCA, RLA, RRCA and RRA: S, Z and PV stay. -/
def Obligations.AccumulatorRotates : Prop :=
  ∀ (i : Instr) (s : State) (w : Byte) (c : Bool),
    (i.op = .base .rlca ∧ w = s.main.a.rotateLeft 1 ∧ c = s.main.a.getLsbD 7) ∨
    (i.op = .base .rla ∧ w = s.main.a <<< 1 ||| (if flagC s.main.f then 0x01#8 else 0x00#8) ∧ c = s.main.a.getLsbD 7) ∨
    (i.op = .base .rrca ∧ w = s.main.a.rotateRight 1 ∧ c = s.main.a.getLsbD 0) ∨
    (i.op = .base .rra ∧ w = s.main.a >>> 1 ||| (if flagC s.main.f then 0x80#8 else 0x00#8) ∧ c = s.main.a.getLsbD 0) →
    ∃ f, FlagsAre f (flagS s.main.f) (flagZ s.main.f) (w.getLsbD 5) false (w.getLsbD 3) (flagPV s.main.f) false c ∧
      exec i s = .next { s with main := { s.main with a := w, f := f }, cycles := 4 }

/-- What the eight CB rotates and shifts compute and the flags they set (R199 to R207), on a register, on (HL), and on
(ii+d) with and without the register copy. Memory is a RAM by the model's choice (log 1). -/
def Obligations.RotatesAndShifts : Prop :=
  (∀ (v : Byte) (c : Bool),
    rotate .rlc v c = (v.rotateLeft 1, v.getLsbD 7) ∧ rotate .rrc v c = (v.rotateRight 1, v.getLsbD 0) ∧
    rotate .rl v c = (v <<< 1 ||| (if c then 0x01#8 else 0x00#8), v.getLsbD 7) ∧
    rotate .rr v c = (v >>> 1 ||| (if c then 0x80#8 else 0x00#8), v.getLsbD 0) ∧
    rotate .sla v c = (v <<< 1, v.getLsbD 7) ∧ rotate .sra v c = (v.sshiftRight 1, v.getLsbD 0) ∧
    rotate .sll v c = (v <<< 1 ||| 0x01#8, v.getLsbD 7) ∧ rotate .srl v c = (v >>> 1, v.getLsbD 0)) ∧
  (∀ (k : Rot) (f v : Byte), ∃ w, w = (rotate k v (flagC f)).1 ∧ rotated k f v = w ∧
    FlagsAre (rotatedF k f v) (w.getLsbD 7) (w == 0#8) (w.getLsbD 5) false (w.getLsbD 3) (parity w) false
      (rotate k v (flagC f)).2) ∧
  (∀ (i : Instr) (k : Rot) (r : Reg8) (s : State), i.op = .cb (.rotReg k r) →
    exec i s = .next
      { s with
        main := { s.main.set r (rotated k s.main.f (s.main.get r)) with
                  f := rotatedF k s.main.f (s.main.get r) }, cycles := 8 }) ∧
  (∀ (i : Instr) (k : Rot) (s : State), i.op = .cb (.rotMem k) →
    ∃ t v w, v = s.peek s.hl ∧ w = rotated k s.main.f v ∧ exec i s = .next t ∧ Stored s t s.hl w ∧
      t = { s with
            mem := t.mem, main := { s.main with f := rotatedF k s.main.f v },
            calls := s.calls ++ [.readMem s.hl v, .writeMem s.hl w], cycles := 15 }) ∧
  (∀ (i : Instr) (ii : Idx) (d : Byte) (k : Rot) (copy : Option Reg8) (s : State),
    i.op = .idxCb ii d (.rot k copy) →
    ∃ t ea v w, ea = s.idx ii + d.signExtend 16 ∧ v = s.peek ea ∧ w = rotated k s.main.f v ∧
      exec i s = .next t ∧ Stored s t ea w ∧
      t = { s.copyTo copy w with
            mem := t.mem, memptr := ea, main := { (s.copyTo copy w).main with f := rotatedF k s.main.f v },
            calls := s.calls ++ [.readMem ea v, .writeMem ea w], cycles := 23 })

/-- RLD and RRD. Memory is a RAM by the model's choice (log 1). -/
def Obligations.DigitRotates : Prop :=
  ∀ (i : Instr) (s : State) (m w : Byte),
    (i.op = .ed .rld ∧ m = s.peek s.hl <<< 4 ||| s.main.a &&& 0x0F#8 ∧
      w = s.main.a &&& 0xF0#8 ||| s.peek s.hl >>> 4) ∨
    (i.op = .ed .rrd ∧ m = s.main.a <<< 4 ||| s.peek s.hl >>> 4 ∧
      w = s.main.a &&& 0xF0#8 ||| s.peek s.hl &&& 0x0F#8) →
    ∃ t f, FlagsAre f (w.getLsbD 7) (w == 0#8) (w.getLsbD 5) false (w.getLsbD 3) (parity w) false (flagC s.main.f) ∧
      exec i s = .next t ∧ Stored s t s.hl m ∧
      t = { s with
            mem := t.mem, main := { s.main with a := w, f := f }, memptr := s.hl + 1#16,
            calls := s.calls ++ [.readMem s.hl (s.peek s.hl), .writeMem s.hl m], cycles := 18 }

/-! Bits (file 46). -/

/-- BIT b on a register, on (HL) and on (ii+d): Y and X come from the register, from MEMPTR and from EA. Memory is a RAM
by the model's choice (log 1). -/
def Obligations.BitTests : Prop :=
  (∀ (i : Instr) (b : BitVec 3) (r : Reg8) (s : State), i.op = .cb (.bitReg b r) →
    ∃ v t f, v = s.main.get r ∧ t = v.getLsbD b.toNat ∧
      FlagsAre f (decide (b = 7#3) && t) (!t) (v.getLsbD 5) true (v.getLsbD 3) (!t) false (flagC s.main.f) ∧
      exec i s = .next { s with main := { s.main with f := f }, cycles := 8 }) ∧
  (∀ (i : Instr) (b : BitVec 3) (s : State), i.op = .cb (.bitMem b) →
    ∃ t f, t = (s.peek s.hl).getLsbD b.toNat ∧
      FlagsAre f (decide (b = 7#3) && t) (!t) (s.memptr.getLsbD 13) true (s.memptr.getLsbD 11) (!t) false
        (flagC s.main.f) ∧
      exec i s = .next
        { s with
          main := { s.main with f := f }, calls := s.calls ++ [.readMem s.hl (s.peek s.hl)], cycles := 12 }) ∧
  (∀ (i : Instr) (ii : Idx) (d : Byte) (b z : BitVec 3) (s : State), i.op = .idxCb ii d (.bit b z) →
    ∃ ea t f, ea = s.idx ii + d.signExtend 16 ∧ t = (s.peek ea).getLsbD b.toNat ∧
      FlagsAre f (decide (b = 7#3) && t) (!t) (ea.getLsbD 13) true (ea.getLsbD 11) (!t) false (flagC s.main.f) ∧
      exec i s = .next
        { s with
          main := { s.main with f := f }, memptr := ea, calls := s.calls ++ [.readMem ea (s.peek ea)],
          cycles := 20 })

/-- SET b and RES b on a register, on (HL) and on (ii+d): bit b becomes 1 or 0, every other bit stays, no flag changes.
Memory is a RAM by the model's choice (log 1). -/
def Obligations.BitChanges : Prop :=
  (∀ (b : BitVec 3) (v : Byte) (k : Nat), k < 8 →
    (setBit b v).getLsbD k = (if k = b.toNat then true else v.getLsbD k)) ∧
  (∀ (i : Instr) (b : BitVec 3) (r : Reg8) (s : State), i.op = .cb (.setReg b r) →
    exec i s = .next { s with main := s.main.set r (setBit b (s.main.get r)), cycles := 8 }) ∧
  (∀ (i : Instr) (b : BitVec 3) (s : State), i.op = .cb (.setMem b) →
    ∃ t v w, v = s.peek s.hl ∧ w = setBit b v ∧ exec i s = .next t ∧ Stored s t s.hl w ∧
      t = { s with
            mem := t.mem, calls := s.calls ++ [.readMem s.hl v, .writeMem s.hl w], cycles := 15 }) ∧
  (∀ (i : Instr) (ii : Idx) (d : Byte) (b : BitVec 3) (copy : Option Reg8) (s : State),
    i.op = .idxCb ii d (.set b copy) →
    ∃ t ea v w, ea = s.idx ii + d.signExtend 16 ∧ v = s.peek ea ∧ w = setBit b v ∧ exec i s = .next t ∧
      Stored s t ea w ∧
      t = { s.copyTo copy w with
            mem := t.mem, memptr := ea, calls := s.calls ++ [.readMem ea v, .writeMem ea w], cycles := 23 }) ∧
  (∀ (b : BitVec 3) (v : Byte) (k : Nat), k < 8 →
    (resBit b v).getLsbD k = (if k = b.toNat then false else v.getLsbD k)) ∧
  (∀ (i : Instr) (b : BitVec 3) (r : Reg8) (s : State), i.op = .cb (.resReg b r) →
    exec i s = .next { s with main := s.main.set r (resBit b (s.main.get r)), cycles := 8 }) ∧
  (∀ (i : Instr) (b : BitVec 3) (s : State), i.op = .cb (.resMem b) →
    ∃ t v w, v = s.peek s.hl ∧ w = resBit b v ∧ exec i s = .next t ∧ Stored s t s.hl w ∧
      t = { s with
            mem := t.mem, calls := s.calls ++ [.readMem s.hl v, .writeMem s.hl w], cycles := 15 }) ∧
  (∀ (i : Instr) (ii : Idx) (d : Byte) (b : BitVec 3) (copy : Option Reg8) (s : State),
    i.op = .idxCb ii d (.res b copy) →
    ∃ t ea v w, ea = s.idx ii + d.signExtend 16 ∧ v = s.peek ea ∧ w = resBit b v ∧ exec i s = .next t ∧
      Stored s t ea w ∧
      t = { s.copyTo copy w with
            mem := t.mem, memptr := ea, calls := s.calls ++ [.readMem ea v, .writeMem ea w], cycles := 23 })

/-! Control (file 47). -/

/-- What each condition tests (R79), and the jumps. -/
def Obligations.Jumps : Prop :=
  (∀ f : Byte,
    condHolds .nz f = (f &&& 0x40#8 == 0#8) ∧ condHolds .z f = (f &&& 0x40#8 != 0#8) ∧
    condHolds .nc f = (f &&& 0x01#8 == 0#8) ∧ condHolds .c f = (f &&& 0x01#8 != 0#8) ∧
    condHolds .po f = (f &&& 0x04#8 == 0#8) ∧ condHolds .pe f = (f &&& 0x04#8 != 0#8) ∧
    condHolds .p f = (f &&& 0x80#8 == 0#8) ∧ condHolds .m f = (f &&& 0x80#8 != 0#8) ∧
    jrCondHolds .nz f = condHolds .nz f ∧ jrCondHolds .z f = condHolds .z f ∧
    jrCondHolds .nc f = condHolds .nc f ∧ jrCondHolds .c f = condHolds .c f) ∧
  (∀ (i : Instr) (nn : Word) (s : State), i.op = .base (.jp nn) →
    exec i s = .next { s with pc := nn, memptr := nn, cycles := 10 }) ∧
  (∀ (i : Instr) (cc : Cond) (nn : Word) (s : State), i.op = .base (.jpCc cc nn) →
    exec i s = .next
      { s with pc := if condHolds cc s.main.f then nn else s.pc, memptr := nn, cycles := 10 }) ∧
  (∀ (i : Instr) (e : Byte) (s : State), i.op = .base (.jr e) →
    exec i s = .next
      { s with pc := s.pc + e.signExtend 16, memptr := s.pc + e.signExtend 16, cycles := 12 }) ∧
  (∀ (i : Instr) (cc : JrCond) (e : Byte) (s : State), i.op = .base (.jrCc cc e) →
    exec i s = .next
      (if jrCondHolds cc s.main.f then
        { s with pc := s.pc + e.signExtend 16, memptr := s.pc + e.signExtend 16, cycles := 12 }
       else { s with cycles := 7 })) ∧
  (∀ (i : Instr) (s : State), i.op = .base .jpHl → exec i s = .next { s with pc := s.hl, cycles := 4 }) ∧
  (∀ (i : Instr) (ii : Idx) (s : State), i.op = .idx ii .jp →
    exec i s = .next { s with pc := s.idx ii, cycles := 8 }) ∧
  (∀ (i : Instr) (e : Byte) (s : State), i.op = .base (.djnz e) →
    exec i s = .next
      (if s.main.b = 1#8 then { s with main := { s.main with b := 0#8 }, cycles := 8 }
       else
        { s with
          main := { s.main with b := s.main.b - 1#8 }, pc := s.pc + e.signExtend 16,
          memptr := s.pc + e.signExtend 16, cycles := 13 }))

/-- CALL, CALL cc and RST: the pushed PC is the one the instruction starts its pseudocode with. Memory is a RAM by the
model's choice (log 1). -/
def Obligations.Calls : Prop :=
  (∀ (i : Instr) (s : State) (w : Word) (n : Nat),
    (i.op = .base (.call w) ∧ n = 17) ∨
    (∃ cc, i.op = .base (.callCc cc w) ∧ condHolds cc s.main.f = true ∧ n = 17) ∨
    (∃ y, i.op = .base (.rst y) ∧ w = BitVec.ofNat 16 (8 * y.toNat) ∧ n = 11) →
    ∃ t, exec i s = .next t ∧ Stored2 s t (s.sp - 1#16) (hiByte s.pc) (s.sp - 2#16) (loByte s.pc) ∧
      t = { s with
            mem := t.mem, sp := s.sp - 2#16, pc := w, memptr := w,
            calls := s.calls ++
              [.writeMem (s.sp - 1#16) (hiByte s.pc), .writeMem (s.sp - 2#16) (loByte s.pc)], cycles := n }) ∧
  (∀ (i : Instr) (cc : Cond) (nn : Word) (s : State), i.op = .base (.callCc cc nn) →
    condHolds cc s.main.f = false → exec i s = .next { s with memptr := nn, cycles := 10 })

/-- RET and RET cc. Memory is a RAM by the model's choice (log 1). -/
def Obligations.Returns : Prop :=
  (∀ (i : Instr) (s : State) (n : Nat),
    (i.op = .base .ret ∧ n = 10) ∨
    (∃ cc, i.op = .base (.retCc cc) ∧ condHolds cc s.main.f = true ∧ n = 11) →
    ∃ w, w = pack (s.peek (s.sp + 1#16)) (s.peek s.sp) ∧
      exec i s = .next
        { s with
          pc := w, memptr := w, sp := s.sp + 2#16,
          calls := s.calls ++
            [.readMem s.sp (s.peek s.sp), .readMem (s.sp + 1#16) (s.peek (s.sp + 1#16))], cycles := n }) ∧
  (∀ (i : Instr) (cc : Cond) (s : State), i.op = .base (.retCc cc) →
    condHolds cc s.main.f = false → exec i s = .next { s with cycles := 5 })

/-! Input and output (file 48). -/

/-- IN A,(n), IN r,(C) and IN F,(C): the callback sees the port's low byte, and answers the byte read. Past the host's
script the byte is a free value (log 3). -/
def Obligations.Inputs : Prop :=
  (∀ (i : Instr) (n : Byte) (s : State), i.op = .base (.inAN n) →
    ∃ v, v = s.ioAnswers.headD (Config.freeIoByte s.draws) ∧
      exec i s = .next
        { s with
          main := { s.main with a := v }, memptr := pack s.main.a n + 1#16,
          ioAnswers := s.ioAnswers.tail, draws := if s.ioAnswers.isEmpty then s.draws + 1 else s.draws,
          calls := s.calls ++ [.readIo n v], cycles := 11 }) ∧
  (∀ (i : Instr) (s : State) (copy : Option Reg8),
    (i.op = .ed .inF ∧ copy = none) ∨ (∃ r, i.op = .ed (.inReg r) ∧ copy = some r) →
    ∃ v f, v = s.ioAnswers.headD (Config.freeIoByte s.draws) ∧
      FlagsAre f (v.getLsbD 7) (v == 0#8) (v.getLsbD 5) false (v.getLsbD 3) (parity v) false (flagC s.main.f) ∧
      exec i s = .next
        { s.copyTo copy v with
          main := { (s.copyTo copy v).main with f := f }, memptr := s.bc + 1#16,
          ioAnswers := s.ioAnswers.tail, draws := if s.ioAnswers.isEmpty then s.draws + 1 else s.draws,
          calls := s.calls ++ [.readIo s.main.c v], cycles := 12 })

/-- OUT (n),A, OUT (C),r and OUT (C),0. -/
def Obligations.Outputs : Prop :=
  (∀ (i : Instr) (n : Byte) (s : State), i.op = .base (.outNA n) →
    exec i s = .next
      { s with
        memptr := pack s.main.a (n + 1#8), calls := s.calls ++ [.writeIo n s.main.a], cycles := 11 }) ∧
  (∀ (i : Instr) (s : State) (v : Byte),
    (∃ r, i.op = .ed (.outReg r) ∧ v = s.main.get r) ∨ (i.op = .ed .outZero ∧ v = s.params.outCZeroValue) →
    exec i s = .next
      { s with memptr := s.bc + 1#16, calls := s.calls ++ [.writeIo s.main.c v], cycles := 12 })

/-! CPU control and prefixes (file 49). -/

/-- NOP, HALT, DI, EI, IM and the ED NOP* bytes. -/
def Obligations.CpuControl : Prop :=
  (∀ (i : Instr) (s : State), i.op = .base .nop → exec i s = .next { s with cycles := 4 }) ∧
  (∀ (i : Instr) (op : Byte) (s : State), i.op = .ed (.nopStar op) → exec i s = .next { s with cycles := 8 }) ∧
  (∀ (i : Instr) (s : State), i.op = .base .halt → exec i s = .next { s with halted := true, cycles := 4 }) ∧
  (∀ (i : Instr) (s : State), i.op = .base .di →
    exec i s = .next { s with iff1 := false, iff2 := false, cycles := 4 }) ∧
  (∀ (i : Instr) (s : State), i.op = .base .ei →
    exec i s = .next { s with iff1 := true, iff2 := true, eiDelay := true, cycles := 4 }) ∧
  (∀ (i : Instr) (m : IntMode) (y : BitVec 3) (s : State), i.op = .ed (.im m y) →
    exec i s = .next { s with im := m, cycles := 8 })

/-- An index prefix before an opcode it does not affect, and before an ED instruction: exactly the unprefixed
instruction, 4 cycles more; and a redundant prefix, of which the second is kept. -/
def Obligations.PrefixedForms : Prop :=
  (∀ (i : Instr) (ii : Idx) (o : BaseOp) (s : State), i.op = .ignored ii o →
    ∃ j t, j.op = .base o ∧ exec j s = .next t ∧ exec i s = .next { t with cycles := t.cycles + 4 }) ∧
  (∀ (i : Instr) (ii : Idx) (o : EdOp) (s : State), i.op = .ignoredEd ii o →
    ∃ j t, j.op = .ed o ∧ exec j s = .next t ∧ exec i s = .next { t with cycles := t.cycles + 4 }) ∧
  (∀ (i : Instr) (first second : Idx) (s : State), i.op = .redundant first second →
    exec i s = .next { s with pendingPrefix := some second, cycles := 8 })
end

