-- ==== Sys2Proof/Laws/Flags.lean ====
section
/-! SUPPORT. Each flag of a packed F is the one it was packed from, so the flags of a computation are read off its last
line. -/

namespace Sys2Proof.Machine

theorem flagsAre_packF (s z y h x pv n c : Bool) : FlagsAre (packF s z y h x pv n c) s z y h x pv n c := by
  revert s z y h x pv n c
  decide

@[simp] theorem flagS_packF (s z y h x pv n c : Bool) : flagS (packF s z y h x pv n c) = s :=
  (flagsAre_packF s z y h x pv n c).1

@[simp] theorem flagZ_packF (s z y h x pv n c : Bool) : flagZ (packF s z y h x pv n c) = z :=
  (flagsAre_packF s z y h x pv n c).2.1

@[simp] theorem flagY_packF (s z y h x pv n c : Bool) : flagY (packF s z y h x pv n c) = y :=
  (flagsAre_packF s z y h x pv n c).2.2.1

@[simp] theorem flagH_packF (s z y h x pv n c : Bool) : flagH (packF s z y h x pv n c) = h :=
  (flagsAre_packF s z y h x pv n c).2.2.2.1

@[simp] theorem flagX_packF (s z y h x pv n c : Bool) : flagX (packF s z y h x pv n c) = x :=
  (flagsAre_packF s z y h x pv n c).2.2.2.2.1

@[simp] theorem flagPV_packF (s z y h x pv n c : Bool) : flagPV (packF s z y h x pv n c) = pv :=
  (flagsAre_packF s z y h x pv n c).2.2.2.2.2.1

@[simp] theorem flagN_packF (s z y h x pv n c : Bool) : flagN (packF s z y h x pv n c) = n :=
  (flagsAre_packF s z y h x pv n c).2.2.2.2.2.2.1

@[simp] theorem flagC_packF (s z y h x pv n c : Bool) : flagC (packF s z y h x pv n c) = c :=
  (flagsAre_packF s z y h x pv n c).2.2.2.2.2.2.2

/-- Packing the flags of F gives F back: all eight bits are real storage (R24). -/
theorem packF_flags (f : Byte) :
    packF (flagS f) (flagZ f) (flagY f) (flagH f) (flagX f) (flagPV f) (flagN f) (flagC f) = f := by
  revert f
  decide

end Sys2Proof.Machine
end

