-- ==== Sys2Proof/Laws/Memory.lean ====
section
/-! SUPPORT. A byte reads as it was last written, a write leaves every other byte alone, and every write keeps the canonical
form. -/

namespace Sys2Proof.Machine

theorem Memory.read_erase_same (m : List Host.Cell) (x : Nat) :
    Memory.read (Memory.erase m x) x = Memory.unlisted := by
  induction m with
  | nil => rfl
  | cons c rest ih =>
    obtain ⟨a, w⟩ := c
    by_cases h : a = x <;> simp [Memory.erase, Memory.read, h, ih]

theorem Memory.read_erase_other (m : List Host.Cell) {x y : Nat} (h : y ≠ x) :
    Memory.read (Memory.erase m x) y = Memory.read m y := by
  induction m with
  | nil => rfl
  | cons c rest ih =>
    obtain ⟨a, w⟩ := c
    by_cases hx : a = x
    · simp [Memory.erase, Memory.read, hx, ih, h.symm]
    · by_cases hy : a = y <;> simp [Memory.erase, Memory.read, hx, hy, ih]
      subst hy
      simp [Memory.read, h]

theorem Memory.read_insert_other (m : List Host.Cell) {x y : Nat} (v : Byte) (h : y ≠ x) :
    Memory.read (Memory.insert m x v) y = Memory.read m y := by
  induction m with
  | nil => simp [Memory.insert, Memory.read, h.symm]
  | cons c rest ih =>
    obtain ⟨a, w⟩ := c
    by_cases hx : x < a
    · simp [Memory.insert, Memory.read, hx, h.symm]
    · simp only [Memory.insert, hx, if_false, Memory.read, ih]

theorem Memory.read_insert_erase (m : List Host.Cell) (x : Nat) (v : Byte) :
    Memory.read (Memory.insert (Memory.erase m x) x v) x = v := by
  induction m with
  | nil => simp [Memory.erase, Memory.insert, Memory.read]
  | cons c rest ih =>
    obtain ⟨a, w⟩ := c
    by_cases h : a = x
    · simpa [Memory.erase, h] using ih
    · by_cases hx : x < a <;> simp [Memory.erase, Memory.insert, Memory.read, h, hx, ih]

@[simp] theorem Memory.read_write_same (m : List Host.Cell) (x : Nat) (v : Byte) :
    Memory.read (Memory.write m x v) x = v := by
  by_cases h : v = Memory.unlisted
  · simp [Memory.write, h, Memory.read_erase_same]
  · simp [Memory.write, h, Memory.read_insert_erase]

theorem Memory.read_write_other (m : List Host.Cell) {x y : Nat} (v : Byte) (h : y ≠ x) :
    Memory.read (Memory.write m x v) y = Memory.read m y := by
  by_cases hv : v = Memory.unlisted
  · simp [Memory.write, hv, Memory.read_erase_other m h]
  · simp [Memory.write, hv, Memory.read_insert_other _ v h, Memory.read_erase_other m h]

theorem Memory.wfFrom_mono {m : List Host.Cell} {lo lo' : Nat} (h : lo' ≤ lo) (w : Memory.wfFrom lo m = true) :
    Memory.wfFrom lo' m = true := by
  cases m with
  | nil => rfl
  | cons c rest =>
    obtain ⟨a, v⟩ := c
    simp only [Memory.wfFrom, Bool.and_eq_true, decide_eq_true_eq] at w ⊢
    exact ⟨⟨⟨h.trans w.1.1.1, w.1.1.2⟩, w.1.2⟩, w.2⟩

theorem Memory.wfFrom_erase {m : List Host.Cell} {lo : Nat} (x : Nat) (w : Memory.wfFrom lo m = true) :
    Memory.wfFrom lo (Memory.erase m x) = true := by
  induction m generalizing lo with
  | nil => rfl
  | cons c rest ih =>
    obtain ⟨a, v⟩ := c
    simp only [Memory.wfFrom, Bool.and_eq_true, decide_eq_true_eq] at w
    by_cases h : a = x
    · simp only [Memory.erase, h, if_true]
      exact ih (Memory.wfFrom_mono (by omega) w.2)
    · simp only [Memory.erase, h, if_false, Memory.wfFrom, Bool.and_eq_true, decide_eq_true_eq]
      exact ⟨w.1, ih w.2⟩

theorem Memory.wfFrom_insert {m : List Host.Cell} {lo x : Nat} {v : Byte} (hx : lo ≤ x) (hb : x < 65536)
    (hv : v ≠ Memory.unlisted) (w : Memory.wfFrom lo m = true) (hn : ∀ c ∈ m, c.1 ≠ x) :
    Memory.wfFrom lo (Memory.insert m x v) = true := by
  induction m generalizing lo with
  | nil => simp [Memory.insert, Memory.wfFrom, hx, hb, hv]
  | cons c rest ih =>
    obtain ⟨a, u⟩ := c
    simp only [Memory.wfFrom, Bool.and_eq_true, decide_eq_true_eq] at w
    have ha : a ≠ x := hn (a, u) List.mem_cons_self
    by_cases h : x < a
    · simp only [Memory.insert, h, if_true, Memory.wfFrom, Bool.and_eq_true, decide_eq_true_eq]
      exact ⟨⟨⟨hx, hb⟩, hv⟩, ⟨⟨by omega, w.1.1.2⟩, w.1.2⟩, w.2⟩
    · simp only [Memory.insert, h, if_false, Memory.wfFrom, Bool.and_eq_true, decide_eq_true_eq]
      exact ⟨w.1, ih (by omega) w.2 fun c hc => hn c (List.mem_cons_of_mem _ hc)⟩

theorem Memory.mem_erase {m : List Host.Cell} {x : Nat} {c : Host.Cell} (h : c ∈ Memory.erase m x) : c.1 ≠ x := by
  induction m with
  | nil => cases h
  | cons d rest ih =>
    obtain ⟨a, v⟩ := d
    by_cases ha : a = x
    · simp only [Memory.erase, ha, if_true] at h
      exact ih h
    · simp only [Memory.erase, ha, if_false, List.mem_cons] at h
      rcases h with rfl | h
      · exact ha
      · exact ih h

/-- Every write keeps the canonical form. -/
theorem Memory.wf_write {m : List Host.Cell} {x : Nat} (v : Byte) (hb : x < 65536) (w : Memory.wf m = true) :
    Memory.wf (Memory.write m x v) = true := by
  by_cases hv : v = Memory.unlisted
  · simp only [Memory.write, hv, if_true]
    exact Memory.wfFrom_erase x w
  · simp only [Memory.write, hv, if_false]
    exact Memory.wfFrom_insert (Nat.zero_le x) hb hv (Memory.wfFrom_erase x w) fun _ hc => Memory.mem_erase hc

end Sys2Proof.Machine
end

