-- ==== Sys2Proof/Laws/OpRun.lean ====
section
/-! SUPPORT. Every meaning is the operation its fields name: the one lemma by which a statement over an operation reaches
every mnemonic of it. -/

namespace Sys2Proof.Machine

def runBase (o : BaseOp) : State → State :=
  match o with
  | .nop => doNop
  | .exAfAf => doExAfAf
  | .djnz e => doDjnz e
  | .jr e => doJr e
  | .jrCc cc e => doJrCc cc e
  | .ldPairN p nn => doLdPairN p nn
  | .addHl p => doAddHl p
  | .stA rr => doStA rr
  | .ldA rr => doLdA rr
  | .stHl nn => doStHl nn
  | .ldHl nn => doLdHl nn
  | .stAAbs nn => doStAAbs nn
  | .ldAAbs nn => doLdAAbs nn
  | .incPair p => doIncPair p
  | .decPair p => doDecPair p
  | .incReg r => doIncReg r
  | .incMem => doIncMem
  | .decReg r => doDecReg r
  | .decMem => doDecMem
  | .ldRegN r n => doLdRegN r n
  | .ldMemN n => doLdMemN n
  | .rlca => doRlca
  | .rrca => doRrca
  | .rla => doRla
  | .rra => doRra
  | .daa => doDaa
  | .cpl => doCpl
  | .scf => doScf
  | .ccf => doCcf
  | .halt => doHalt
  | .ldRegReg dst src => doLdRegReg dst src
  | .ldRegMem r => doLdRegMem r
  | .ldMemReg r => doLdMemReg r
  | .aluReg k r => doAluReg k r
  | .aluMem k => doAluMem k
  | .aluN k n => doAluN k n
  | .retCc cc => doRetCc cc
  | .pop q => doPop q
  | .push q => doPush q
  | .ret => doRet
  | .exx => doExx
  | .jpHl => doJpHl
  | .ldSpHl => doLdSpHl
  | .jpCc cc nn => doJpCc cc nn
  | .jp nn => doJp nn
  | .outNA n => doOutNA n
  | .inAN n => doInAN n
  | .exSpHl => doExSpHl
  | .exDeHl => doExDeHl
  | .di => doDi
  | .ei => doEi
  | .callCc cc nn => doCallCc cc nn
  | .call nn => doCall nn
  | .rst y => doRst y

def runCb (o : CbOp) : State → State :=
  match o with
  | .rotReg k r => doRotReg k r
  | .rotMem k => doRotMem k
  | .bitReg b r => doBitReg b r
  | .bitMem b => doBitMem b
  | .resReg b r => doResReg b r
  | .resMem b => doResMem b
  | .setReg b r => doSetReg b r
  | .setMem b => doSetMem b

def runIdx (ii : Idx) (o : IdxOp) : State → State :=
  match o with
  | .add p => doIdxAdd ii p
  | .ldN nn => doIdxLdN ii nn
  | .st nn => doIdxSt ii nn
  | .ld nn => doIdxLd ii nn
  | .inc => doIdxInc ii
  | .dec => doIdxDec ii
  | .incHalf x => doIdxIncHalf ii x
  | .decHalf x => doIdxDecHalf ii x
  | .ldHalfN x n => doIdxLdHalfN ii x n
  | .incMem d => doIdxIncMem ii d
  | .decMem d => doIdxDecMem ii d
  | .ldMemN d n => doIdxLdMemN ii d n
  | .ldRegReg dst src => doIdxLdRegReg ii dst src
  | .ldRegMem r d => doIdxLdRegMem ii r d
  | .ldMemReg d r => doIdxLdMemReg ii d r
  | .aluHalf k x => doIdxAluHalf ii k x
  | .aluMem k d => doIdxAluMem ii k d
  | .pop => doIdxPop ii
  | .push => doIdxPush ii
  | .exSp => doIdxExSp ii
  | .jp => doIdxJp ii
  | .ldSp => doIdxLdSp ii

def runIdxCb (ii : Idx) (d : Byte) (o : IdxCbOp) : State → State :=
  match o with
  | .rot k copy => doIdxRot ii d k copy
  | .bit b _ => doIdxBit ii d b
  | .res b copy => doIdxRes ii d b copy
  | .set b copy => doIdxSet ii d b copy

/-- What an operation does. -/
def runOp (o : Op) : State → State :=
  match o with
  | .base o => runBase o
  | .cb o => runCb o
  | .ed o => runEd o
  | .idx ii o => runIdx ii o
  | .idxCb ii d o => runIdxCb ii d o
  | .ignored _ o => ignorePrefix (runBase o)
  | .ignoredEd _ o => ignorePrefix (runEd o)
  | .redundant _ second => doRedundant second

/-- Every instruction answers a next state: what its operation does. -/
theorem exec_eq (i : Instr) (s : State) : exec i s = .next (runOp i.op s) := by
  cases i <;> rfl

/-- The same from the operation. -/
theorem exec_of_op {i : Instr} {o : Op} (h : i.op = o) (s : State) : exec i s = .next (runOp o s) := by
  rw [exec_eq, h]

end Sys2Proof.Machine
end

