-- ==== Sys2Proof/Laws/State.lean ====
section
/-! SUPPORT. What each update of the state does to each field, and to the byte an address reads as. -/

namespace Sys2Proof.Machine

@[simp] theorem State.setReg_main (s : State) (k : Reg8) (v : Byte) : (s.setReg k v).main = s.main.set k v := rfl
@[simp] theorem State.setReg_alt (s : State) (k : Reg8) (v : Byte) : (s.setReg k v).alt = s.alt := rfl
@[simp] theorem State.setReg_ix (s : State) (k : Reg8) (v : Byte) : (s.setReg k v).ix = s.ix := rfl
@[simp] theorem State.setReg_iy (s : State) (k : Reg8) (v : Byte) : (s.setReg k v).iy = s.iy := rfl
@[simp] theorem State.setReg_sp (s : State) (k : Reg8) (v : Byte) : (s.setReg k v).sp = s.sp := rfl
@[simp] theorem State.setReg_pc (s : State) (k : Reg8) (v : Byte) : (s.setReg k v).pc = s.pc := rfl
@[simp] theorem State.setReg_i (s : State) (k : Reg8) (v : Byte) : (s.setReg k v).i = s.i := rfl
@[simp] theorem State.setReg_r (s : State) (k : Reg8) (v : Byte) : (s.setReg k v).r = s.r := rfl
@[simp] theorem State.setReg_iff1 (s : State) (k : Reg8) (v : Byte) : (s.setReg k v).iff1 = s.iff1 := rfl
@[simp] theorem State.setReg_iff2 (s : State) (k : Reg8) (v : Byte) : (s.setReg k v).iff2 = s.iff2 := rfl
@[simp] theorem State.setReg_im (s : State) (k : Reg8) (v : Byte) : (s.setReg k v).im = s.im := rfl
@[simp] theorem State.setReg_halted (s : State) (k : Reg8) (v : Byte) : (s.setReg k v).halted = s.halted := rfl
@[simp] theorem State.setReg_intLatch (s : State) (k : Reg8) (v : Byte) : (s.setReg k v).intLatch = s.intLatch := rfl
@[simp] theorem State.setReg_nmiLatch (s : State) (k : Reg8) (v : Byte) : (s.setReg k v).nmiLatch = s.nmiLatch := rfl
@[simp] theorem State.setReg_eiDelay (s : State) (k : Reg8) (v : Byte) : (s.setReg k v).eiDelay = s.eiDelay := rfl
@[simp] theorem State.setReg_pendingPrefix (s : State) (k : Reg8) (v : Byte) : (s.setReg k v).pendingPrefix = s.pendingPrefix := rfl
@[simp] theorem State.setReg_memptr (s : State) (k : Reg8) (v : Byte) : (s.setReg k v).memptr = s.memptr := rfl
@[simp] theorem State.setReg_q (s : State) (k : Reg8) (v : Byte) : (s.setReg k v).q = s.q := rfl
@[simp] theorem State.setReg_mem (s : State) (k : Reg8) (v : Byte) : (s.setReg k v).mem = s.mem := rfl
@[simp] theorem State.setReg_params (s : State) (k : Reg8) (v : Byte) : (s.setReg k v).params = s.params := rfl
@[simp] theorem State.setReg_pollAnswers (s : State) (k : Reg8) (v : Byte) : (s.setReg k v).pollAnswers = s.pollAnswers := rfl
@[simp] theorem State.setReg_vectorAnswers (s : State) (k : Reg8) (v : Byte) : (s.setReg k v).vectorAnswers = s.vectorAnswers := rfl
@[simp] theorem State.setReg_ioAnswers (s : State) (k : Reg8) (v : Byte) : (s.setReg k v).ioAnswers = s.ioAnswers := rfl
@[simp] theorem State.setReg_draws (s : State) (k : Reg8) (v : Byte) : (s.setReg k v).draws = s.draws := rfl
@[simp] theorem State.setReg_calls (s : State) (k : Reg8) (v : Byte) : (s.setReg k v).calls = s.calls := rfl
@[simp] theorem State.setReg_cycles (s : State) (k : Reg8) (v : Byte) : (s.setReg k v).cycles = s.cycles := rfl
@[simp] theorem State.setReg_peek (s : State) (k : Reg8) (v : Byte) (x : Word) : (s.setReg k v).peek x = s.peek x := rfl

@[simp] theorem State.setA_main (s : State) (v : Byte) : (s.setA v).main = { s.main with a := v } := rfl
@[simp] theorem State.setA_alt (s : State) (v : Byte) : (s.setA v).alt = s.alt := rfl
@[simp] theorem State.setA_ix (s : State) (v : Byte) : (s.setA v).ix = s.ix := rfl
@[simp] theorem State.setA_iy (s : State) (v : Byte) : (s.setA v).iy = s.iy := rfl
@[simp] theorem State.setA_sp (s : State) (v : Byte) : (s.setA v).sp = s.sp := rfl
@[simp] theorem State.setA_pc (s : State) (v : Byte) : (s.setA v).pc = s.pc := rfl
@[simp] theorem State.setA_i (s : State) (v : Byte) : (s.setA v).i = s.i := rfl
@[simp] theorem State.setA_r (s : State) (v : Byte) : (s.setA v).r = s.r := rfl
@[simp] theorem State.setA_iff1 (s : State) (v : Byte) : (s.setA v).iff1 = s.iff1 := rfl
@[simp] theorem State.setA_iff2 (s : State) (v : Byte) : (s.setA v).iff2 = s.iff2 := rfl
@[simp] theorem State.setA_im (s : State) (v : Byte) : (s.setA v).im = s.im := rfl
@[simp] theorem State.setA_halted (s : State) (v : Byte) : (s.setA v).halted = s.halted := rfl
@[simp] theorem State.setA_intLatch (s : State) (v : Byte) : (s.setA v).intLatch = s.intLatch := rfl
@[simp] theorem State.setA_nmiLatch (s : State) (v : Byte) : (s.setA v).nmiLatch = s.nmiLatch := rfl
@[simp] theorem State.setA_eiDelay (s : State) (v : Byte) : (s.setA v).eiDelay = s.eiDelay := rfl
@[simp] theorem State.setA_pendingPrefix (s : State) (v : Byte) : (s.setA v).pendingPrefix = s.pendingPrefix := rfl
@[simp] theorem State.setA_memptr (s : State) (v : Byte) : (s.setA v).memptr = s.memptr := rfl
@[simp] theorem State.setA_q (s : State) (v : Byte) : (s.setA v).q = s.q := rfl
@[simp] theorem State.setA_mem (s : State) (v : Byte) : (s.setA v).mem = s.mem := rfl
@[simp] theorem State.setA_params (s : State) (v : Byte) : (s.setA v).params = s.params := rfl
@[simp] theorem State.setA_pollAnswers (s : State) (v : Byte) : (s.setA v).pollAnswers = s.pollAnswers := rfl
@[simp] theorem State.setA_vectorAnswers (s : State) (v : Byte) : (s.setA v).vectorAnswers = s.vectorAnswers := rfl
@[simp] theorem State.setA_ioAnswers (s : State) (v : Byte) : (s.setA v).ioAnswers = s.ioAnswers := rfl
@[simp] theorem State.setA_draws (s : State) (v : Byte) : (s.setA v).draws = s.draws := rfl
@[simp] theorem State.setA_calls (s : State) (v : Byte) : (s.setA v).calls = s.calls := rfl
@[simp] theorem State.setA_cycles (s : State) (v : Byte) : (s.setA v).cycles = s.cycles := rfl
@[simp] theorem State.setA_peek (s : State) (v : Byte) (x : Word) : (s.setA v).peek x = s.peek x := rfl

@[simp] theorem State.setB_main (s : State) (v : Byte) : (s.setB v).main = { s.main with b := v } := rfl
@[simp] theorem State.setB_alt (s : State) (v : Byte) : (s.setB v).alt = s.alt := rfl
@[simp] theorem State.setB_ix (s : State) (v : Byte) : (s.setB v).ix = s.ix := rfl
@[simp] theorem State.setB_iy (s : State) (v : Byte) : (s.setB v).iy = s.iy := rfl
@[simp] theorem State.setB_sp (s : State) (v : Byte) : (s.setB v).sp = s.sp := rfl
@[simp] theorem State.setB_pc (s : State) (v : Byte) : (s.setB v).pc = s.pc := rfl
@[simp] theorem State.setB_i (s : State) (v : Byte) : (s.setB v).i = s.i := rfl
@[simp] theorem State.setB_r (s : State) (v : Byte) : (s.setB v).r = s.r := rfl
@[simp] theorem State.setB_iff1 (s : State) (v : Byte) : (s.setB v).iff1 = s.iff1 := rfl
@[simp] theorem State.setB_iff2 (s : State) (v : Byte) : (s.setB v).iff2 = s.iff2 := rfl
@[simp] theorem State.setB_im (s : State) (v : Byte) : (s.setB v).im = s.im := rfl
@[simp] theorem State.setB_halted (s : State) (v : Byte) : (s.setB v).halted = s.halted := rfl
@[simp] theorem State.setB_intLatch (s : State) (v : Byte) : (s.setB v).intLatch = s.intLatch := rfl
@[simp] theorem State.setB_nmiLatch (s : State) (v : Byte) : (s.setB v).nmiLatch = s.nmiLatch := rfl
@[simp] theorem State.setB_eiDelay (s : State) (v : Byte) : (s.setB v).eiDelay = s.eiDelay := rfl
@[simp] theorem State.setB_pendingPrefix (s : State) (v : Byte) : (s.setB v).pendingPrefix = s.pendingPrefix := rfl
@[simp] theorem State.setB_memptr (s : State) (v : Byte) : (s.setB v).memptr = s.memptr := rfl
@[simp] theorem State.setB_q (s : State) (v : Byte) : (s.setB v).q = s.q := rfl
@[simp] theorem State.setB_mem (s : State) (v : Byte) : (s.setB v).mem = s.mem := rfl
@[simp] theorem State.setB_params (s : State) (v : Byte) : (s.setB v).params = s.params := rfl
@[simp] theorem State.setB_pollAnswers (s : State) (v : Byte) : (s.setB v).pollAnswers = s.pollAnswers := rfl
@[simp] theorem State.setB_vectorAnswers (s : State) (v : Byte) : (s.setB v).vectorAnswers = s.vectorAnswers := rfl
@[simp] theorem State.setB_ioAnswers (s : State) (v : Byte) : (s.setB v).ioAnswers = s.ioAnswers := rfl
@[simp] theorem State.setB_draws (s : State) (v : Byte) : (s.setB v).draws = s.draws := rfl
@[simp] theorem State.setB_calls (s : State) (v : Byte) : (s.setB v).calls = s.calls := rfl
@[simp] theorem State.setB_cycles (s : State) (v : Byte) : (s.setB v).cycles = s.cycles := rfl
@[simp] theorem State.setB_peek (s : State) (v : Byte) (x : Word) : (s.setB v).peek x = s.peek x := rfl

@[simp] theorem State.setF_main (s : State) (v : Byte) : (s.setF v).main = { s.main with f := v } := rfl
@[simp] theorem State.setF_alt (s : State) (v : Byte) : (s.setF v).alt = s.alt := rfl
@[simp] theorem State.setF_ix (s : State) (v : Byte) : (s.setF v).ix = s.ix := rfl
@[simp] theorem State.setF_iy (s : State) (v : Byte) : (s.setF v).iy = s.iy := rfl
@[simp] theorem State.setF_sp (s : State) (v : Byte) : (s.setF v).sp = s.sp := rfl
@[simp] theorem State.setF_pc (s : State) (v : Byte) : (s.setF v).pc = s.pc := rfl
@[simp] theorem State.setF_i (s : State) (v : Byte) : (s.setF v).i = s.i := rfl
@[simp] theorem State.setF_r (s : State) (v : Byte) : (s.setF v).r = s.r := rfl
@[simp] theorem State.setF_iff1 (s : State) (v : Byte) : (s.setF v).iff1 = s.iff1 := rfl
@[simp] theorem State.setF_iff2 (s : State) (v : Byte) : (s.setF v).iff2 = s.iff2 := rfl
@[simp] theorem State.setF_im (s : State) (v : Byte) : (s.setF v).im = s.im := rfl
@[simp] theorem State.setF_halted (s : State) (v : Byte) : (s.setF v).halted = s.halted := rfl
@[simp] theorem State.setF_intLatch (s : State) (v : Byte) : (s.setF v).intLatch = s.intLatch := rfl
@[simp] theorem State.setF_nmiLatch (s : State) (v : Byte) : (s.setF v).nmiLatch = s.nmiLatch := rfl
@[simp] theorem State.setF_eiDelay (s : State) (v : Byte) : (s.setF v).eiDelay = s.eiDelay := rfl
@[simp] theorem State.setF_pendingPrefix (s : State) (v : Byte) : (s.setF v).pendingPrefix = s.pendingPrefix := rfl
@[simp] theorem State.setF_memptr (s : State) (v : Byte) : (s.setF v).memptr = s.memptr := rfl
@[simp] theorem State.setF_q (s : State) (v : Byte) : (s.setF v).q = s.q := rfl
@[simp] theorem State.setF_mem (s : State) (v : Byte) : (s.setF v).mem = s.mem := rfl
@[simp] theorem State.setF_params (s : State) (v : Byte) : (s.setF v).params = s.params := rfl
@[simp] theorem State.setF_pollAnswers (s : State) (v : Byte) : (s.setF v).pollAnswers = s.pollAnswers := rfl
@[simp] theorem State.setF_vectorAnswers (s : State) (v : Byte) : (s.setF v).vectorAnswers = s.vectorAnswers := rfl
@[simp] theorem State.setF_ioAnswers (s : State) (v : Byte) : (s.setF v).ioAnswers = s.ioAnswers := rfl
@[simp] theorem State.setF_draws (s : State) (v : Byte) : (s.setF v).draws = s.draws := rfl
@[simp] theorem State.setF_calls (s : State) (v : Byte) : (s.setF v).calls = s.calls := rfl
@[simp] theorem State.setF_cycles (s : State) (v : Byte) : (s.setF v).cycles = s.cycles := rfl
@[simp] theorem State.setF_peek (s : State) (v : Byte) (x : Word) : (s.setF v).peek x = s.peek x := rfl

@[simp] theorem State.setBc_main (s : State) (v : Word) : (s.setBc v).main = { s.main with b := hiByte v, c := loByte v } := rfl
@[simp] theorem State.setBc_alt (s : State) (v : Word) : (s.setBc v).alt = s.alt := rfl
@[simp] theorem State.setBc_ix (s : State) (v : Word) : (s.setBc v).ix = s.ix := rfl
@[simp] theorem State.setBc_iy (s : State) (v : Word) : (s.setBc v).iy = s.iy := rfl
@[simp] theorem State.setBc_sp (s : State) (v : Word) : (s.setBc v).sp = s.sp := rfl
@[simp] theorem State.setBc_pc (s : State) (v : Word) : (s.setBc v).pc = s.pc := rfl
@[simp] theorem State.setBc_i (s : State) (v : Word) : (s.setBc v).i = s.i := rfl
@[simp] theorem State.setBc_r (s : State) (v : Word) : (s.setBc v).r = s.r := rfl
@[simp] theorem State.setBc_iff1 (s : State) (v : Word) : (s.setBc v).iff1 = s.iff1 := rfl
@[simp] theorem State.setBc_iff2 (s : State) (v : Word) : (s.setBc v).iff2 = s.iff2 := rfl
@[simp] theorem State.setBc_im (s : State) (v : Word) : (s.setBc v).im = s.im := rfl
@[simp] theorem State.setBc_halted (s : State) (v : Word) : (s.setBc v).halted = s.halted := rfl
@[simp] theorem State.setBc_intLatch (s : State) (v : Word) : (s.setBc v).intLatch = s.intLatch := rfl
@[simp] theorem State.setBc_nmiLatch (s : State) (v : Word) : (s.setBc v).nmiLatch = s.nmiLatch := rfl
@[simp] theorem State.setBc_eiDelay (s : State) (v : Word) : (s.setBc v).eiDelay = s.eiDelay := rfl
@[simp] theorem State.setBc_pendingPrefix (s : State) (v : Word) : (s.setBc v).pendingPrefix = s.pendingPrefix := rfl
@[simp] theorem State.setBc_memptr (s : State) (v : Word) : (s.setBc v).memptr = s.memptr := rfl
@[simp] theorem State.setBc_q (s : State) (v : Word) : (s.setBc v).q = s.q := rfl
@[simp] theorem State.setBc_mem (s : State) (v : Word) : (s.setBc v).mem = s.mem := rfl
@[simp] theorem State.setBc_params (s : State) (v : Word) : (s.setBc v).params = s.params := rfl
@[simp] theorem State.setBc_pollAnswers (s : State) (v : Word) : (s.setBc v).pollAnswers = s.pollAnswers := rfl
@[simp] theorem State.setBc_vectorAnswers (s : State) (v : Word) : (s.setBc v).vectorAnswers = s.vectorAnswers := rfl
@[simp] theorem State.setBc_ioAnswers (s : State) (v : Word) : (s.setBc v).ioAnswers = s.ioAnswers := rfl
@[simp] theorem State.setBc_draws (s : State) (v : Word) : (s.setBc v).draws = s.draws := rfl
@[simp] theorem State.setBc_calls (s : State) (v : Word) : (s.setBc v).calls = s.calls := rfl
@[simp] theorem State.setBc_cycles (s : State) (v : Word) : (s.setBc v).cycles = s.cycles := rfl
@[simp] theorem State.setBc_peek (s : State) (v : Word) (x : Word) : (s.setBc v).peek x = s.peek x := rfl

@[simp] theorem State.setDe_main (s : State) (v : Word) : (s.setDe v).main = { s.main with d := hiByte v, e := loByte v } := rfl
@[simp] theorem State.setDe_alt (s : State) (v : Word) : (s.setDe v).alt = s.alt := rfl
@[simp] theorem State.setDe_ix (s : State) (v : Word) : (s.setDe v).ix = s.ix := rfl
@[simp] theorem State.setDe_iy (s : State) (v : Word) : (s.setDe v).iy = s.iy := rfl
@[simp] theorem State.setDe_sp (s : State) (v : Word) : (s.setDe v).sp = s.sp := rfl
@[simp] theorem State.setDe_pc (s : State) (v : Word) : (s.setDe v).pc = s.pc := rfl
@[simp] theorem State.setDe_i (s : State) (v : Word) : (s.setDe v).i = s.i := rfl
@[simp] theorem State.setDe_r (s : State) (v : Word) : (s.setDe v).r = s.r := rfl
@[simp] theorem State.setDe_iff1 (s : State) (v : Word) : (s.setDe v).iff1 = s.iff1 := rfl
@[simp] theorem State.setDe_iff2 (s : State) (v : Word) : (s.setDe v).iff2 = s.iff2 := rfl
@[simp] theorem State.setDe_im (s : State) (v : Word) : (s.setDe v).im = s.im := rfl
@[simp] theorem State.setDe_halted (s : State) (v : Word) : (s.setDe v).halted = s.halted := rfl
@[simp] theorem State.setDe_intLatch (s : State) (v : Word) : (s.setDe v).intLatch = s.intLatch := rfl
@[simp] theorem State.setDe_nmiLatch (s : State) (v : Word) : (s.setDe v).nmiLatch = s.nmiLatch := rfl
@[simp] theorem State.setDe_eiDelay (s : State) (v : Word) : (s.setDe v).eiDelay = s.eiDelay := rfl
@[simp] theorem State.setDe_pendingPrefix (s : State) (v : Word) : (s.setDe v).pendingPrefix = s.pendingPrefix := rfl
@[simp] theorem State.setDe_memptr (s : State) (v : Word) : (s.setDe v).memptr = s.memptr := rfl
@[simp] theorem State.setDe_q (s : State) (v : Word) : (s.setDe v).q = s.q := rfl
@[simp] theorem State.setDe_mem (s : State) (v : Word) : (s.setDe v).mem = s.mem := rfl
@[simp] theorem State.setDe_params (s : State) (v : Word) : (s.setDe v).params = s.params := rfl
@[simp] theorem State.setDe_pollAnswers (s : State) (v : Word) : (s.setDe v).pollAnswers = s.pollAnswers := rfl
@[simp] theorem State.setDe_vectorAnswers (s : State) (v : Word) : (s.setDe v).vectorAnswers = s.vectorAnswers := rfl
@[simp] theorem State.setDe_ioAnswers (s : State) (v : Word) : (s.setDe v).ioAnswers = s.ioAnswers := rfl
@[simp] theorem State.setDe_draws (s : State) (v : Word) : (s.setDe v).draws = s.draws := rfl
@[simp] theorem State.setDe_calls (s : State) (v : Word) : (s.setDe v).calls = s.calls := rfl
@[simp] theorem State.setDe_cycles (s : State) (v : Word) : (s.setDe v).cycles = s.cycles := rfl
@[simp] theorem State.setDe_peek (s : State) (v : Word) (x : Word) : (s.setDe v).peek x = s.peek x := rfl

@[simp] theorem State.setHl_main (s : State) (v : Word) : (s.setHl v).main = { s.main with h := hiByte v, l := loByte v } := rfl
@[simp] theorem State.setHl_alt (s : State) (v : Word) : (s.setHl v).alt = s.alt := rfl
@[simp] theorem State.setHl_ix (s : State) (v : Word) : (s.setHl v).ix = s.ix := rfl
@[simp] theorem State.setHl_iy (s : State) (v : Word) : (s.setHl v).iy = s.iy := rfl
@[simp] theorem State.setHl_sp (s : State) (v : Word) : (s.setHl v).sp = s.sp := rfl
@[simp] theorem State.setHl_pc (s : State) (v : Word) : (s.setHl v).pc = s.pc := rfl
@[simp] theorem State.setHl_i (s : State) (v : Word) : (s.setHl v).i = s.i := rfl
@[simp] theorem State.setHl_r (s : State) (v : Word) : (s.setHl v).r = s.r := rfl
@[simp] theorem State.setHl_iff1 (s : State) (v : Word) : (s.setHl v).iff1 = s.iff1 := rfl
@[simp] theorem State.setHl_iff2 (s : State) (v : Word) : (s.setHl v).iff2 = s.iff2 := rfl
@[simp] theorem State.setHl_im (s : State) (v : Word) : (s.setHl v).im = s.im := rfl
@[simp] theorem State.setHl_halted (s : State) (v : Word) : (s.setHl v).halted = s.halted := rfl
@[simp] theorem State.setHl_intLatch (s : State) (v : Word) : (s.setHl v).intLatch = s.intLatch := rfl
@[simp] theorem State.setHl_nmiLatch (s : State) (v : Word) : (s.setHl v).nmiLatch = s.nmiLatch := rfl
@[simp] theorem State.setHl_eiDelay (s : State) (v : Word) : (s.setHl v).eiDelay = s.eiDelay := rfl
@[simp] theorem State.setHl_pendingPrefix (s : State) (v : Word) : (s.setHl v).pendingPrefix = s.pendingPrefix := rfl
@[simp] theorem State.setHl_memptr (s : State) (v : Word) : (s.setHl v).memptr = s.memptr := rfl
@[simp] theorem State.setHl_q (s : State) (v : Word) : (s.setHl v).q = s.q := rfl
@[simp] theorem State.setHl_mem (s : State) (v : Word) : (s.setHl v).mem = s.mem := rfl
@[simp] theorem State.setHl_params (s : State) (v : Word) : (s.setHl v).params = s.params := rfl
@[simp] theorem State.setHl_pollAnswers (s : State) (v : Word) : (s.setHl v).pollAnswers = s.pollAnswers := rfl
@[simp] theorem State.setHl_vectorAnswers (s : State) (v : Word) : (s.setHl v).vectorAnswers = s.vectorAnswers := rfl
@[simp] theorem State.setHl_ioAnswers (s : State) (v : Word) : (s.setHl v).ioAnswers = s.ioAnswers := rfl
@[simp] theorem State.setHl_draws (s : State) (v : Word) : (s.setHl v).draws = s.draws := rfl
@[simp] theorem State.setHl_calls (s : State) (v : Word) : (s.setHl v).calls = s.calls := rfl
@[simp] theorem State.setHl_cycles (s : State) (v : Word) : (s.setHl v).cycles = s.cycles := rfl
@[simp] theorem State.setHl_peek (s : State) (v : Word) (x : Word) : (s.setHl v).peek x = s.peek x := rfl

@[simp] theorem State.setAf_main (s : State) (v : Word) : (s.setAf v).main = { s.main with a := hiByte v, f := loByte v } := rfl
@[simp] theorem State.setAf_alt (s : State) (v : Word) : (s.setAf v).alt = s.alt := rfl
@[simp] theorem State.setAf_ix (s : State) (v : Word) : (s.setAf v).ix = s.ix := rfl
@[simp] theorem State.setAf_iy (s : State) (v : Word) : (s.setAf v).iy = s.iy := rfl
@[simp] theorem State.setAf_sp (s : State) (v : Word) : (s.setAf v).sp = s.sp := rfl
@[simp] theorem State.setAf_pc (s : State) (v : Word) : (s.setAf v).pc = s.pc := rfl
@[simp] theorem State.setAf_i (s : State) (v : Word) : (s.setAf v).i = s.i := rfl
@[simp] theorem State.setAf_r (s : State) (v : Word) : (s.setAf v).r = s.r := rfl
@[simp] theorem State.setAf_iff1 (s : State) (v : Word) : (s.setAf v).iff1 = s.iff1 := rfl
@[simp] theorem State.setAf_iff2 (s : State) (v : Word) : (s.setAf v).iff2 = s.iff2 := rfl
@[simp] theorem State.setAf_im (s : State) (v : Word) : (s.setAf v).im = s.im := rfl
@[simp] theorem State.setAf_halted (s : State) (v : Word) : (s.setAf v).halted = s.halted := rfl
@[simp] theorem State.setAf_intLatch (s : State) (v : Word) : (s.setAf v).intLatch = s.intLatch := rfl
@[simp] theorem State.setAf_nmiLatch (s : State) (v : Word) : (s.setAf v).nmiLatch = s.nmiLatch := rfl
@[simp] theorem State.setAf_eiDelay (s : State) (v : Word) : (s.setAf v).eiDelay = s.eiDelay := rfl
@[simp] theorem State.setAf_pendingPrefix (s : State) (v : Word) : (s.setAf v).pendingPrefix = s.pendingPrefix := rfl
@[simp] theorem State.setAf_memptr (s : State) (v : Word) : (s.setAf v).memptr = s.memptr := rfl
@[simp] theorem State.setAf_q (s : State) (v : Word) : (s.setAf v).q = s.q := rfl
@[simp] theorem State.setAf_mem (s : State) (v : Word) : (s.setAf v).mem = s.mem := rfl
@[simp] theorem State.setAf_params (s : State) (v : Word) : (s.setAf v).params = s.params := rfl
@[simp] theorem State.setAf_pollAnswers (s : State) (v : Word) : (s.setAf v).pollAnswers = s.pollAnswers := rfl
@[simp] theorem State.setAf_vectorAnswers (s : State) (v : Word) : (s.setAf v).vectorAnswers = s.vectorAnswers := rfl
@[simp] theorem State.setAf_ioAnswers (s : State) (v : Word) : (s.setAf v).ioAnswers = s.ioAnswers := rfl
@[simp] theorem State.setAf_draws (s : State) (v : Word) : (s.setAf v).draws = s.draws := rfl
@[simp] theorem State.setAf_calls (s : State) (v : Word) : (s.setAf v).calls = s.calls := rfl
@[simp] theorem State.setAf_cycles (s : State) (v : Word) : (s.setAf v).cycles = s.cycles := rfl
@[simp] theorem State.setAf_peek (s : State) (v : Word) (x : Word) : (s.setAf v).peek x = s.peek x := rfl

@[simp] theorem State.setSp_main (s : State) (v : Word) : (s.setSp v).main = s.main := rfl
@[simp] theorem State.setSp_alt (s : State) (v : Word) : (s.setSp v).alt = s.alt := rfl
@[simp] theorem State.setSp_ix (s : State) (v : Word) : (s.setSp v).ix = s.ix := rfl
@[simp] theorem State.setSp_iy (s : State) (v : Word) : (s.setSp v).iy = s.iy := rfl
@[simp] theorem State.setSp_sp (s : State) (v : Word) : (s.setSp v).sp = v := rfl
@[simp] theorem State.setSp_pc (s : State) (v : Word) : (s.setSp v).pc = s.pc := rfl
@[simp] theorem State.setSp_i (s : State) (v : Word) : (s.setSp v).i = s.i := rfl
@[simp] theorem State.setSp_r (s : State) (v : Word) : (s.setSp v).r = s.r := rfl
@[simp] theorem State.setSp_iff1 (s : State) (v : Word) : (s.setSp v).iff1 = s.iff1 := rfl
@[simp] theorem State.setSp_iff2 (s : State) (v : Word) : (s.setSp v).iff2 = s.iff2 := rfl
@[simp] theorem State.setSp_im (s : State) (v : Word) : (s.setSp v).im = s.im := rfl
@[simp] theorem State.setSp_halted (s : State) (v : Word) : (s.setSp v).halted = s.halted := rfl
@[simp] theorem State.setSp_intLatch (s : State) (v : Word) : (s.setSp v).intLatch = s.intLatch := rfl
@[simp] theorem State.setSp_nmiLatch (s : State) (v : Word) : (s.setSp v).nmiLatch = s.nmiLatch := rfl
@[simp] theorem State.setSp_eiDelay (s : State) (v : Word) : (s.setSp v).eiDelay = s.eiDelay := rfl
@[simp] theorem State.setSp_pendingPrefix (s : State) (v : Word) : (s.setSp v).pendingPrefix = s.pendingPrefix := rfl
@[simp] theorem State.setSp_memptr (s : State) (v : Word) : (s.setSp v).memptr = s.memptr := rfl
@[simp] theorem State.setSp_q (s : State) (v : Word) : (s.setSp v).q = s.q := rfl
@[simp] theorem State.setSp_mem (s : State) (v : Word) : (s.setSp v).mem = s.mem := rfl
@[simp] theorem State.setSp_params (s : State) (v : Word) : (s.setSp v).params = s.params := rfl
@[simp] theorem State.setSp_pollAnswers (s : State) (v : Word) : (s.setSp v).pollAnswers = s.pollAnswers := rfl
@[simp] theorem State.setSp_vectorAnswers (s : State) (v : Word) : (s.setSp v).vectorAnswers = s.vectorAnswers := rfl
@[simp] theorem State.setSp_ioAnswers (s : State) (v : Word) : (s.setSp v).ioAnswers = s.ioAnswers := rfl
@[simp] theorem State.setSp_draws (s : State) (v : Word) : (s.setSp v).draws = s.draws := rfl
@[simp] theorem State.setSp_calls (s : State) (v : Word) : (s.setSp v).calls = s.calls := rfl
@[simp] theorem State.setSp_cycles (s : State) (v : Word) : (s.setSp v).cycles = s.cycles := rfl
@[simp] theorem State.setSp_peek (s : State) (v : Word) (x : Word) : (s.setSp v).peek x = s.peek x := rfl

@[simp] theorem State.setPc_main (s : State) (v : Word) : (s.setPc v).main = s.main := rfl
@[simp] theorem State.setPc_alt (s : State) (v : Word) : (s.setPc v).alt = s.alt := rfl
@[simp] theorem State.setPc_ix (s : State) (v : Word) : (s.setPc v).ix = s.ix := rfl
@[simp] theorem State.setPc_iy (s : State) (v : Word) : (s.setPc v).iy = s.iy := rfl
@[simp] theorem State.setPc_sp (s : State) (v : Word) : (s.setPc v).sp = s.sp := rfl
@[simp] theorem State.setPc_pc (s : State) (v : Word) : (s.setPc v).pc = v := rfl
@[simp] theorem State.setPc_i (s : State) (v : Word) : (s.setPc v).i = s.i := rfl
@[simp] theorem State.setPc_r (s : State) (v : Word) : (s.setPc v).r = s.r := rfl
@[simp] theorem State.setPc_iff1 (s : State) (v : Word) : (s.setPc v).iff1 = s.iff1 := rfl
@[simp] theorem State.setPc_iff2 (s : State) (v : Word) : (s.setPc v).iff2 = s.iff2 := rfl
@[simp] theorem State.setPc_im (s : State) (v : Word) : (s.setPc v).im = s.im := rfl
@[simp] theorem State.setPc_halted (s : State) (v : Word) : (s.setPc v).halted = s.halted := rfl
@[simp] theorem State.setPc_intLatch (s : State) (v : Word) : (s.setPc v).intLatch = s.intLatch := rfl
@[simp] theorem State.setPc_nmiLatch (s : State) (v : Word) : (s.setPc v).nmiLatch = s.nmiLatch := rfl
@[simp] theorem State.setPc_eiDelay (s : State) (v : Word) : (s.setPc v).eiDelay = s.eiDelay := rfl
@[simp] theorem State.setPc_pendingPrefix (s : State) (v : Word) : (s.setPc v).pendingPrefix = s.pendingPrefix := rfl
@[simp] theorem State.setPc_memptr (s : State) (v : Word) : (s.setPc v).memptr = s.memptr := rfl
@[simp] theorem State.setPc_q (s : State) (v : Word) : (s.setPc v).q = s.q := rfl
@[simp] theorem State.setPc_mem (s : State) (v : Word) : (s.setPc v).mem = s.mem := rfl
@[simp] theorem State.setPc_params (s : State) (v : Word) : (s.setPc v).params = s.params := rfl
@[simp] theorem State.setPc_pollAnswers (s : State) (v : Word) : (s.setPc v).pollAnswers = s.pollAnswers := rfl
@[simp] theorem State.setPc_vectorAnswers (s : State) (v : Word) : (s.setPc v).vectorAnswers = s.vectorAnswers := rfl
@[simp] theorem State.setPc_ioAnswers (s : State) (v : Word) : (s.setPc v).ioAnswers = s.ioAnswers := rfl
@[simp] theorem State.setPc_draws (s : State) (v : Word) : (s.setPc v).draws = s.draws := rfl
@[simp] theorem State.setPc_calls (s : State) (v : Word) : (s.setPc v).calls = s.calls := rfl
@[simp] theorem State.setPc_cycles (s : State) (v : Word) : (s.setPc v).cycles = s.cycles := rfl
@[simp] theorem State.setPc_peek (s : State) (v : Word) (x : Word) : (s.setPc v).peek x = s.peek x := rfl

@[simp] theorem State.setMemptr_main (s : State) (v : Word) : (s.setMemptr v).main = s.main := rfl
@[simp] theorem State.setMemptr_alt (s : State) (v : Word) : (s.setMemptr v).alt = s.alt := rfl
@[simp] theorem State.setMemptr_ix (s : State) (v : Word) : (s.setMemptr v).ix = s.ix := rfl
@[simp] theorem State.setMemptr_iy (s : State) (v : Word) : (s.setMemptr v).iy = s.iy := rfl
@[simp] theorem State.setMemptr_sp (s : State) (v : Word) : (s.setMemptr v).sp = s.sp := rfl
@[simp] theorem State.setMemptr_pc (s : State) (v : Word) : (s.setMemptr v).pc = s.pc := rfl
@[simp] theorem State.setMemptr_i (s : State) (v : Word) : (s.setMemptr v).i = s.i := rfl
@[simp] theorem State.setMemptr_r (s : State) (v : Word) : (s.setMemptr v).r = s.r := rfl
@[simp] theorem State.setMemptr_iff1 (s : State) (v : Word) : (s.setMemptr v).iff1 = s.iff1 := rfl
@[simp] theorem State.setMemptr_iff2 (s : State) (v : Word) : (s.setMemptr v).iff2 = s.iff2 := rfl
@[simp] theorem State.setMemptr_im (s : State) (v : Word) : (s.setMemptr v).im = s.im := rfl
@[simp] theorem State.setMemptr_halted (s : State) (v : Word) : (s.setMemptr v).halted = s.halted := rfl
@[simp] theorem State.setMemptr_intLatch (s : State) (v : Word) : (s.setMemptr v).intLatch = s.intLatch := rfl
@[simp] theorem State.setMemptr_nmiLatch (s : State) (v : Word) : (s.setMemptr v).nmiLatch = s.nmiLatch := rfl
@[simp] theorem State.setMemptr_eiDelay (s : State) (v : Word) : (s.setMemptr v).eiDelay = s.eiDelay := rfl
@[simp] theorem State.setMemptr_pendingPrefix (s : State) (v : Word) : (s.setMemptr v).pendingPrefix = s.pendingPrefix := rfl
@[simp] theorem State.setMemptr_memptr (s : State) (v : Word) : (s.setMemptr v).memptr = v := rfl
@[simp] theorem State.setMemptr_q (s : State) (v : Word) : (s.setMemptr v).q = s.q := rfl
@[simp] theorem State.setMemptr_mem (s : State) (v : Word) : (s.setMemptr v).mem = s.mem := rfl
@[simp] theorem State.setMemptr_params (s : State) (v : Word) : (s.setMemptr v).params = s.params := rfl
@[simp] theorem State.setMemptr_pollAnswers (s : State) (v : Word) : (s.setMemptr v).pollAnswers = s.pollAnswers := rfl
@[simp] theorem State.setMemptr_vectorAnswers (s : State) (v : Word) : (s.setMemptr v).vectorAnswers = s.vectorAnswers := rfl
@[simp] theorem State.setMemptr_ioAnswers (s : State) (v : Word) : (s.setMemptr v).ioAnswers = s.ioAnswers := rfl
@[simp] theorem State.setMemptr_draws (s : State) (v : Word) : (s.setMemptr v).draws = s.draws := rfl
@[simp] theorem State.setMemptr_calls (s : State) (v : Word) : (s.setMemptr v).calls = s.calls := rfl
@[simp] theorem State.setMemptr_cycles (s : State) (v : Word) : (s.setMemptr v).cycles = s.cycles := rfl
@[simp] theorem State.setMemptr_peek (s : State) (v : Word) (x : Word) : (s.setMemptr v).peek x = s.peek x := rfl

@[simp] theorem State.jump_main (s : State) (v : Word) : (s.jump v).main = s.main := rfl
@[simp] theorem State.jump_alt (s : State) (v : Word) : (s.jump v).alt = s.alt := rfl
@[simp] theorem State.jump_ix (s : State) (v : Word) : (s.jump v).ix = s.ix := rfl
@[simp] theorem State.jump_iy (s : State) (v : Word) : (s.jump v).iy = s.iy := rfl
@[simp] theorem State.jump_sp (s : State) (v : Word) : (s.jump v).sp = s.sp := rfl
@[simp] theorem State.jump_pc (s : State) (v : Word) : (s.jump v).pc = v := rfl
@[simp] theorem State.jump_i (s : State) (v : Word) : (s.jump v).i = s.i := rfl
@[simp] theorem State.jump_r (s : State) (v : Word) : (s.jump v).r = s.r := rfl
@[simp] theorem State.jump_iff1 (s : State) (v : Word) : (s.jump v).iff1 = s.iff1 := rfl
@[simp] theorem State.jump_iff2 (s : State) (v : Word) : (s.jump v).iff2 = s.iff2 := rfl
@[simp] theorem State.jump_im (s : State) (v : Word) : (s.jump v).im = s.im := rfl
@[simp] theorem State.jump_halted (s : State) (v : Word) : (s.jump v).halted = s.halted := rfl
@[simp] theorem State.jump_intLatch (s : State) (v : Word) : (s.jump v).intLatch = s.intLatch := rfl
@[simp] theorem State.jump_nmiLatch (s : State) (v : Word) : (s.jump v).nmiLatch = s.nmiLatch := rfl
@[simp] theorem State.jump_eiDelay (s : State) (v : Word) : (s.jump v).eiDelay = s.eiDelay := rfl
@[simp] theorem State.jump_pendingPrefix (s : State) (v : Word) : (s.jump v).pendingPrefix = s.pendingPrefix := rfl
@[simp] theorem State.jump_memptr (s : State) (v : Word) : (s.jump v).memptr = v := rfl
@[simp] theorem State.jump_q (s : State) (v : Word) : (s.jump v).q = s.q := rfl
@[simp] theorem State.jump_mem (s : State) (v : Word) : (s.jump v).mem = s.mem := rfl
@[simp] theorem State.jump_params (s : State) (v : Word) : (s.jump v).params = s.params := rfl
@[simp] theorem State.jump_pollAnswers (s : State) (v : Word) : (s.jump v).pollAnswers = s.pollAnswers := rfl
@[simp] theorem State.jump_vectorAnswers (s : State) (v : Word) : (s.jump v).vectorAnswers = s.vectorAnswers := rfl
@[simp] theorem State.jump_ioAnswers (s : State) (v : Word) : (s.jump v).ioAnswers = s.ioAnswers := rfl
@[simp] theorem State.jump_draws (s : State) (v : Word) : (s.jump v).draws = s.draws := rfl
@[simp] theorem State.jump_calls (s : State) (v : Word) : (s.jump v).calls = s.calls := rfl
@[simp] theorem State.jump_cycles (s : State) (v : Word) : (s.jump v).cycles = s.cycles := rfl
@[simp] theorem State.jump_peek (s : State) (v : Word) (x : Word) : (s.jump v).peek x = s.peek x := rfl

@[simp] theorem State.took_main (s : State) (n : Nat) : (s.took n).main = s.main := rfl
@[simp] theorem State.took_alt (s : State) (n : Nat) : (s.took n).alt = s.alt := rfl
@[simp] theorem State.took_ix (s : State) (n : Nat) : (s.took n).ix = s.ix := rfl
@[simp] theorem State.took_iy (s : State) (n : Nat) : (s.took n).iy = s.iy := rfl
@[simp] theorem State.took_sp (s : State) (n : Nat) : (s.took n).sp = s.sp := rfl
@[simp] theorem State.took_pc (s : State) (n : Nat) : (s.took n).pc = s.pc := rfl
@[simp] theorem State.took_i (s : State) (n : Nat) : (s.took n).i = s.i := rfl
@[simp] theorem State.took_r (s : State) (n : Nat) : (s.took n).r = s.r := rfl
@[simp] theorem State.took_iff1 (s : State) (n : Nat) : (s.took n).iff1 = s.iff1 := rfl
@[simp] theorem State.took_iff2 (s : State) (n : Nat) : (s.took n).iff2 = s.iff2 := rfl
@[simp] theorem State.took_im (s : State) (n : Nat) : (s.took n).im = s.im := rfl
@[simp] theorem State.took_halted (s : State) (n : Nat) : (s.took n).halted = s.halted := rfl
@[simp] theorem State.took_intLatch (s : State) (n : Nat) : (s.took n).intLatch = s.intLatch := rfl
@[simp] theorem State.took_nmiLatch (s : State) (n : Nat) : (s.took n).nmiLatch = s.nmiLatch := rfl
@[simp] theorem State.took_eiDelay (s : State) (n : Nat) : (s.took n).eiDelay = s.eiDelay := rfl
@[simp] theorem State.took_pendingPrefix (s : State) (n : Nat) : (s.took n).pendingPrefix = s.pendingPrefix := rfl
@[simp] theorem State.took_memptr (s : State) (n : Nat) : (s.took n).memptr = s.memptr := rfl
@[simp] theorem State.took_q (s : State) (n : Nat) : (s.took n).q = s.q := rfl
@[simp] theorem State.took_mem (s : State) (n : Nat) : (s.took n).mem = s.mem := rfl
@[simp] theorem State.took_params (s : State) (n : Nat) : (s.took n).params = s.params := rfl
@[simp] theorem State.took_pollAnswers (s : State) (n : Nat) : (s.took n).pollAnswers = s.pollAnswers := rfl
@[simp] theorem State.took_vectorAnswers (s : State) (n : Nat) : (s.took n).vectorAnswers = s.vectorAnswers := rfl
@[simp] theorem State.took_ioAnswers (s : State) (n : Nat) : (s.took n).ioAnswers = s.ioAnswers := rfl
@[simp] theorem State.took_draws (s : State) (n : Nat) : (s.took n).draws = s.draws := rfl
@[simp] theorem State.took_calls (s : State) (n : Nat) : (s.took n).calls = s.calls := rfl
@[simp] theorem State.took_cycles (s : State) (n : Nat) : (s.took n).cycles = n := rfl
@[simp] theorem State.took_peek (s : State) (n : Nat) (x : Word) : (s.took n).peek x = s.peek x := rfl

@[simp] theorem State.addCycles_main (s : State) (n : Nat) : (s.addCycles n).main = s.main := rfl
@[simp] theorem State.addCycles_alt (s : State) (n : Nat) : (s.addCycles n).alt = s.alt := rfl
@[simp] theorem State.addCycles_ix (s : State) (n : Nat) : (s.addCycles n).ix = s.ix := rfl
@[simp] theorem State.addCycles_iy (s : State) (n : Nat) : (s.addCycles n).iy = s.iy := rfl
@[simp] theorem State.addCycles_sp (s : State) (n : Nat) : (s.addCycles n).sp = s.sp := rfl
@[simp] theorem State.addCycles_pc (s : State) (n : Nat) : (s.addCycles n).pc = s.pc := rfl
@[simp] theorem State.addCycles_i (s : State) (n : Nat) : (s.addCycles n).i = s.i := rfl
@[simp] theorem State.addCycles_r (s : State) (n : Nat) : (s.addCycles n).r = s.r := rfl
@[simp] theorem State.addCycles_iff1 (s : State) (n : Nat) : (s.addCycles n).iff1 = s.iff1 := rfl
@[simp] theorem State.addCycles_iff2 (s : State) (n : Nat) : (s.addCycles n).iff2 = s.iff2 := rfl
@[simp] theorem State.addCycles_im (s : State) (n : Nat) : (s.addCycles n).im = s.im := rfl
@[simp] theorem State.addCycles_halted (s : State) (n : Nat) : (s.addCycles n).halted = s.halted := rfl
@[simp] theorem State.addCycles_intLatch (s : State) (n : Nat) : (s.addCycles n).intLatch = s.intLatch := rfl
@[simp] theorem State.addCycles_nmiLatch (s : State) (n : Nat) : (s.addCycles n).nmiLatch = s.nmiLatch := rfl
@[simp] theorem State.addCycles_eiDelay (s : State) (n : Nat) : (s.addCycles n).eiDelay = s.eiDelay := rfl
@[simp] theorem State.addCycles_pendingPrefix (s : State) (n : Nat) : (s.addCycles n).pendingPrefix = s.pendingPrefix := rfl
@[simp] theorem State.addCycles_memptr (s : State) (n : Nat) : (s.addCycles n).memptr = s.memptr := rfl
@[simp] theorem State.addCycles_q (s : State) (n : Nat) : (s.addCycles n).q = s.q := rfl
@[simp] theorem State.addCycles_mem (s : State) (n : Nat) : (s.addCycles n).mem = s.mem := rfl
@[simp] theorem State.addCycles_params (s : State) (n : Nat) : (s.addCycles n).params = s.params := rfl
@[simp] theorem State.addCycles_pollAnswers (s : State) (n : Nat) : (s.addCycles n).pollAnswers = s.pollAnswers := rfl
@[simp] theorem State.addCycles_vectorAnswers (s : State) (n : Nat) : (s.addCycles n).vectorAnswers = s.vectorAnswers := rfl
@[simp] theorem State.addCycles_ioAnswers (s : State) (n : Nat) : (s.addCycles n).ioAnswers = s.ioAnswers := rfl
@[simp] theorem State.addCycles_draws (s : State) (n : Nat) : (s.addCycles n).draws = s.draws := rfl
@[simp] theorem State.addCycles_calls (s : State) (n : Nat) : (s.addCycles n).calls = s.calls := rfl
@[simp] theorem State.addCycles_cycles (s : State) (n : Nat) : (s.addCycles n).cycles = s.cycles + n := rfl
@[simp] theorem State.addCycles_peek (s : State) (n : Nat) (x : Word) : (s.addCycles n).peek x = s.peek x := rfl

@[simp] theorem State.addWaits_main (s : State) (n : Nat) : (s.addWaits n).main = s.main := rfl
@[simp] theorem State.addWaits_alt (s : State) (n : Nat) : (s.addWaits n).alt = s.alt := rfl
@[simp] theorem State.addWaits_ix (s : State) (n : Nat) : (s.addWaits n).ix = s.ix := rfl
@[simp] theorem State.addWaits_iy (s : State) (n : Nat) : (s.addWaits n).iy = s.iy := rfl
@[simp] theorem State.addWaits_sp (s : State) (n : Nat) : (s.addWaits n).sp = s.sp := rfl
@[simp] theorem State.addWaits_pc (s : State) (n : Nat) : (s.addWaits n).pc = s.pc := rfl
@[simp] theorem State.addWaits_i (s : State) (n : Nat) : (s.addWaits n).i = s.i := rfl
@[simp] theorem State.addWaits_r (s : State) (n : Nat) : (s.addWaits n).r = s.r := rfl
@[simp] theorem State.addWaits_iff1 (s : State) (n : Nat) : (s.addWaits n).iff1 = s.iff1 := rfl
@[simp] theorem State.addWaits_iff2 (s : State) (n : Nat) : (s.addWaits n).iff2 = s.iff2 := rfl
@[simp] theorem State.addWaits_im (s : State) (n : Nat) : (s.addWaits n).im = s.im := rfl
@[simp] theorem State.addWaits_halted (s : State) (n : Nat) : (s.addWaits n).halted = s.halted := rfl
@[simp] theorem State.addWaits_intLatch (s : State) (n : Nat) : (s.addWaits n).intLatch = s.intLatch := rfl
@[simp] theorem State.addWaits_nmiLatch (s : State) (n : Nat) : (s.addWaits n).nmiLatch = s.nmiLatch := rfl
@[simp] theorem State.addWaits_eiDelay (s : State) (n : Nat) : (s.addWaits n).eiDelay = s.eiDelay := rfl
@[simp] theorem State.addWaits_pendingPrefix (s : State) (n : Nat) : (s.addWaits n).pendingPrefix = s.pendingPrefix := rfl
@[simp] theorem State.addWaits_memptr (s : State) (n : Nat) : (s.addWaits n).memptr = s.memptr := rfl
@[simp] theorem State.addWaits_q (s : State) (n : Nat) : (s.addWaits n).q = s.q := rfl
@[simp] theorem State.addWaits_mem (s : State) (n : Nat) : (s.addWaits n).mem = s.mem := rfl
@[simp] theorem State.addWaits_params (s : State) (n : Nat) : (s.addWaits n).params = s.params := rfl
@[simp] theorem State.addWaits_pollAnswers (s : State) (n : Nat) : (s.addWaits n).pollAnswers = s.pollAnswers := rfl
@[simp] theorem State.addWaits_vectorAnswers (s : State) (n : Nat) : (s.addWaits n).vectorAnswers = s.vectorAnswers := rfl
@[simp] theorem State.addWaits_ioAnswers (s : State) (n : Nat) : (s.addWaits n).ioAnswers = s.ioAnswers := rfl
@[simp] theorem State.addWaits_draws (s : State) (n : Nat) : (s.addWaits n).draws = s.draws := rfl
@[simp] theorem State.addWaits_calls (s : State) (n : Nat) : (s.addWaits n).calls = s.calls := rfl
@[simp] theorem State.addWaits_cycles (s : State) (n : Nat) : (s.addWaits n).cycles = s.cycles + s.params.m1Wait * n := rfl
@[simp] theorem State.addWaits_peek (s : State) (n : Nat) (x : Word) : (s.addWaits n).peek x = s.peek x := rfl

@[simp] theorem State.bumpR_main (s : State) (k : Nat) : (s.bumpR k).main = s.main := rfl
@[simp] theorem State.bumpR_alt (s : State) (k : Nat) : (s.bumpR k).alt = s.alt := rfl
@[simp] theorem State.bumpR_ix (s : State) (k : Nat) : (s.bumpR k).ix = s.ix := rfl
@[simp] theorem State.bumpR_iy (s : State) (k : Nat) : (s.bumpR k).iy = s.iy := rfl
@[simp] theorem State.bumpR_sp (s : State) (k : Nat) : (s.bumpR k).sp = s.sp := rfl
@[simp] theorem State.bumpR_pc (s : State) (k : Nat) : (s.bumpR k).pc = s.pc := rfl
@[simp] theorem State.bumpR_i (s : State) (k : Nat) : (s.bumpR k).i = s.i := rfl
@[simp] theorem State.bumpR_r (s : State) (k : Nat) : (s.bumpR k).r = bumpRefresh k s.r := rfl
@[simp] theorem State.bumpR_iff1 (s : State) (k : Nat) : (s.bumpR k).iff1 = s.iff1 := rfl
@[simp] theorem State.bumpR_iff2 (s : State) (k : Nat) : (s.bumpR k).iff2 = s.iff2 := rfl
@[simp] theorem State.bumpR_im (s : State) (k : Nat) : (s.bumpR k).im = s.im := rfl
@[simp] theorem State.bumpR_halted (s : State) (k : Nat) : (s.bumpR k).halted = s.halted := rfl
@[simp] theorem State.bumpR_intLatch (s : State) (k : Nat) : (s.bumpR k).intLatch = s.intLatch := rfl
@[simp] theorem State.bumpR_nmiLatch (s : State) (k : Nat) : (s.bumpR k).nmiLatch = s.nmiLatch := rfl
@[simp] theorem State.bumpR_eiDelay (s : State) (k : Nat) : (s.bumpR k).eiDelay = s.eiDelay := rfl
@[simp] theorem State.bumpR_pendingPrefix (s : State) (k : Nat) : (s.bumpR k).pendingPrefix = s.pendingPrefix := rfl
@[simp] theorem State.bumpR_memptr (s : State) (k : Nat) : (s.bumpR k).memptr = s.memptr := rfl
@[simp] theorem State.bumpR_q (s : State) (k : Nat) : (s.bumpR k).q = s.q := rfl
@[simp] theorem State.bumpR_mem (s : State) (k : Nat) : (s.bumpR k).mem = s.mem := rfl
@[simp] theorem State.bumpR_params (s : State) (k : Nat) : (s.bumpR k).params = s.params := rfl
@[simp] theorem State.bumpR_pollAnswers (s : State) (k : Nat) : (s.bumpR k).pollAnswers = s.pollAnswers := rfl
@[simp] theorem State.bumpR_vectorAnswers (s : State) (k : Nat) : (s.bumpR k).vectorAnswers = s.vectorAnswers := rfl
@[simp] theorem State.bumpR_ioAnswers (s : State) (k : Nat) : (s.bumpR k).ioAnswers = s.ioAnswers := rfl
@[simp] theorem State.bumpR_draws (s : State) (k : Nat) : (s.bumpR k).draws = s.draws := rfl
@[simp] theorem State.bumpR_calls (s : State) (k : Nat) : (s.bumpR k).calls = s.calls := rfl
@[simp] theorem State.bumpR_cycles (s : State) (k : Nat) : (s.bumpR k).cycles = s.cycles := rfl
@[simp] theorem State.bumpR_peek (s : State) (k : Nat) (x : Word) : (s.bumpR k).peek x = s.peek x := rfl

@[simp] theorem State.poke_main (s : State) (a : Word) (v : Byte) : (s.poke a v).main = s.main := rfl
@[simp] theorem State.poke_alt (s : State) (a : Word) (v : Byte) : (s.poke a v).alt = s.alt := rfl
@[simp] theorem State.poke_ix (s : State) (a : Word) (v : Byte) : (s.poke a v).ix = s.ix := rfl
@[simp] theorem State.poke_iy (s : State) (a : Word) (v : Byte) : (s.poke a v).iy = s.iy := rfl
@[simp] theorem State.poke_sp (s : State) (a : Word) (v : Byte) : (s.poke a v).sp = s.sp := rfl
@[simp] theorem State.poke_pc (s : State) (a : Word) (v : Byte) : (s.poke a v).pc = s.pc := rfl
@[simp] theorem State.poke_i (s : State) (a : Word) (v : Byte) : (s.poke a v).i = s.i := rfl
@[simp] theorem State.poke_r (s : State) (a : Word) (v : Byte) : (s.poke a v).r = s.r := rfl
@[simp] theorem State.poke_iff1 (s : State) (a : Word) (v : Byte) : (s.poke a v).iff1 = s.iff1 := rfl
@[simp] theorem State.poke_iff2 (s : State) (a : Word) (v : Byte) : (s.poke a v).iff2 = s.iff2 := rfl
@[simp] theorem State.poke_im (s : State) (a : Word) (v : Byte) : (s.poke a v).im = s.im := rfl
@[simp] theorem State.poke_halted (s : State) (a : Word) (v : Byte) : (s.poke a v).halted = s.halted := rfl
@[simp] theorem State.poke_intLatch (s : State) (a : Word) (v : Byte) : (s.poke a v).intLatch = s.intLatch := rfl
@[simp] theorem State.poke_nmiLatch (s : State) (a : Word) (v : Byte) : (s.poke a v).nmiLatch = s.nmiLatch := rfl
@[simp] theorem State.poke_eiDelay (s : State) (a : Word) (v : Byte) : (s.poke a v).eiDelay = s.eiDelay := rfl
@[simp] theorem State.poke_pendingPrefix (s : State) (a : Word) (v : Byte) : (s.poke a v).pendingPrefix = s.pendingPrefix := rfl
@[simp] theorem State.poke_memptr (s : State) (a : Word) (v : Byte) : (s.poke a v).memptr = s.memptr := rfl
@[simp] theorem State.poke_q (s : State) (a : Word) (v : Byte) : (s.poke a v).q = s.q := rfl
@[simp] theorem State.poke_mem (s : State) (a : Word) (v : Byte) : (s.poke a v).mem = Memory.write s.mem a.toNat v := rfl
@[simp] theorem State.poke_params (s : State) (a : Word) (v : Byte) : (s.poke a v).params = s.params := rfl
@[simp] theorem State.poke_pollAnswers (s : State) (a : Word) (v : Byte) : (s.poke a v).pollAnswers = s.pollAnswers := rfl
@[simp] theorem State.poke_vectorAnswers (s : State) (a : Word) (v : Byte) : (s.poke a v).vectorAnswers = s.vectorAnswers := rfl
@[simp] theorem State.poke_ioAnswers (s : State) (a : Word) (v : Byte) : (s.poke a v).ioAnswers = s.ioAnswers := rfl
@[simp] theorem State.poke_draws (s : State) (a : Word) (v : Byte) : (s.poke a v).draws = s.draws := rfl
@[simp] theorem State.poke_calls (s : State) (a : Word) (v : Byte) : (s.poke a v).calls = s.calls := rfl
@[simp] theorem State.poke_cycles (s : State) (a : Word) (v : Byte) : (s.poke a v).cycles = s.cycles := rfl

@[simp] theorem State.log_main (s : State) (c : BusCall) : (s.log c).main = s.main := rfl
@[simp] theorem State.log_alt (s : State) (c : BusCall) : (s.log c).alt = s.alt := rfl
@[simp] theorem State.log_ix (s : State) (c : BusCall) : (s.log c).ix = s.ix := rfl
@[simp] theorem State.log_iy (s : State) (c : BusCall) : (s.log c).iy = s.iy := rfl
@[simp] theorem State.log_sp (s : State) (c : BusCall) : (s.log c).sp = s.sp := rfl
@[simp] theorem State.log_pc (s : State) (c : BusCall) : (s.log c).pc = s.pc := rfl
@[simp] theorem State.log_i (s : State) (c : BusCall) : (s.log c).i = s.i := rfl
@[simp] theorem State.log_r (s : State) (c : BusCall) : (s.log c).r = s.r := rfl
@[simp] theorem State.log_iff1 (s : State) (c : BusCall) : (s.log c).iff1 = s.iff1 := rfl
@[simp] theorem State.log_iff2 (s : State) (c : BusCall) : (s.log c).iff2 = s.iff2 := rfl
@[simp] theorem State.log_im (s : State) (c : BusCall) : (s.log c).im = s.im := rfl
@[simp] theorem State.log_halted (s : State) (c : BusCall) : (s.log c).halted = s.halted := rfl
@[simp] theorem State.log_intLatch (s : State) (c : BusCall) : (s.log c).intLatch = s.intLatch := rfl
@[simp] theorem State.log_nmiLatch (s : State) (c : BusCall) : (s.log c).nmiLatch = s.nmiLatch := rfl
@[simp] theorem State.log_eiDelay (s : State) (c : BusCall) : (s.log c).eiDelay = s.eiDelay := rfl
@[simp] theorem State.log_pendingPrefix (s : State) (c : BusCall) : (s.log c).pendingPrefix = s.pendingPrefix := rfl
@[simp] theorem State.log_memptr (s : State) (c : BusCall) : (s.log c).memptr = s.memptr := rfl
@[simp] theorem State.log_q (s : State) (c : BusCall) : (s.log c).q = s.q := rfl
@[simp] theorem State.log_mem (s : State) (c : BusCall) : (s.log c).mem = s.mem := rfl
@[simp] theorem State.log_params (s : State) (c : BusCall) : (s.log c).params = s.params := rfl
@[simp] theorem State.log_pollAnswers (s : State) (c : BusCall) : (s.log c).pollAnswers = s.pollAnswers := rfl
@[simp] theorem State.log_vectorAnswers (s : State) (c : BusCall) : (s.log c).vectorAnswers = s.vectorAnswers := rfl
@[simp] theorem State.log_ioAnswers (s : State) (c : BusCall) : (s.log c).ioAnswers = s.ioAnswers := rfl
@[simp] theorem State.log_draws (s : State) (c : BusCall) : (s.log c).draws = s.draws := rfl
@[simp] theorem State.log_calls (s : State) (c : BusCall) : (s.log c).calls = s.calls ++ [c] := rfl
@[simp] theorem State.log_cycles (s : State) (c : BusCall) : (s.log c).cycles = s.cycles := rfl
@[simp] theorem State.log_peek (s : State) (c : BusCall) (x : Word) : (s.log c).peek x = s.peek x := rfl

@[simp] theorem State.writeMem_main (s : State) (a : Word) (v : Byte) : (s.writeMem a v).main = s.main := rfl
@[simp] theorem State.writeMem_alt (s : State) (a : Word) (v : Byte) : (s.writeMem a v).alt = s.alt := rfl
@[simp] theorem State.writeMem_ix (s : State) (a : Word) (v : Byte) : (s.writeMem a v).ix = s.ix := rfl
@[simp] theorem State.writeMem_iy (s : State) (a : Word) (v : Byte) : (s.writeMem a v).iy = s.iy := rfl
@[simp] theorem State.writeMem_sp (s : State) (a : Word) (v : Byte) : (s.writeMem a v).sp = s.sp := rfl
@[simp] theorem State.writeMem_pc (s : State) (a : Word) (v : Byte) : (s.writeMem a v).pc = s.pc := rfl
@[simp] theorem State.writeMem_i (s : State) (a : Word) (v : Byte) : (s.writeMem a v).i = s.i := rfl
@[simp] theorem State.writeMem_r (s : State) (a : Word) (v : Byte) : (s.writeMem a v).r = s.r := rfl
@[simp] theorem State.writeMem_iff1 (s : State) (a : Word) (v : Byte) : (s.writeMem a v).iff1 = s.iff1 := rfl
@[simp] theorem State.writeMem_iff2 (s : State) (a : Word) (v : Byte) : (s.writeMem a v).iff2 = s.iff2 := rfl
@[simp] theorem State.writeMem_im (s : State) (a : Word) (v : Byte) : (s.writeMem a v).im = s.im := rfl
@[simp] theorem State.writeMem_halted (s : State) (a : Word) (v : Byte) : (s.writeMem a v).halted = s.halted := rfl
@[simp] theorem State.writeMem_intLatch (s : State) (a : Word) (v : Byte) : (s.writeMem a v).intLatch = s.intLatch := rfl
@[simp] theorem State.writeMem_nmiLatch (s : State) (a : Word) (v : Byte) : (s.writeMem a v).nmiLatch = s.nmiLatch := rfl
@[simp] theorem State.writeMem_eiDelay (s : State) (a : Word) (v : Byte) : (s.writeMem a v).eiDelay = s.eiDelay := rfl
@[simp] theorem State.writeMem_pendingPrefix (s : State) (a : Word) (v : Byte) : (s.writeMem a v).pendingPrefix = s.pendingPrefix := rfl
@[simp] theorem State.writeMem_memptr (s : State) (a : Word) (v : Byte) : (s.writeMem a v).memptr = s.memptr := rfl
@[simp] theorem State.writeMem_q (s : State) (a : Word) (v : Byte) : (s.writeMem a v).q = s.q := rfl
@[simp] theorem State.writeMem_mem (s : State) (a : Word) (v : Byte) : (s.writeMem a v).mem = Memory.write s.mem a.toNat v := rfl
@[simp] theorem State.writeMem_params (s : State) (a : Word) (v : Byte) : (s.writeMem a v).params = s.params := rfl
@[simp] theorem State.writeMem_pollAnswers (s : State) (a : Word) (v : Byte) : (s.writeMem a v).pollAnswers = s.pollAnswers := rfl
@[simp] theorem State.writeMem_vectorAnswers (s : State) (a : Word) (v : Byte) : (s.writeMem a v).vectorAnswers = s.vectorAnswers := rfl
@[simp] theorem State.writeMem_ioAnswers (s : State) (a : Word) (v : Byte) : (s.writeMem a v).ioAnswers = s.ioAnswers := rfl
@[simp] theorem State.writeMem_draws (s : State) (a : Word) (v : Byte) : (s.writeMem a v).draws = s.draws := rfl
@[simp] theorem State.writeMem_calls (s : State) (a : Word) (v : Byte) : (s.writeMem a v).calls = s.calls ++ [.writeMem a v] := rfl
@[simp] theorem State.writeMem_cycles (s : State) (a : Word) (v : Byte) : (s.writeMem a v).cycles = s.cycles := rfl

@[simp] theorem State.writeMem16_main (s : State) (a : Word) (w : Word) : (s.writeMem16 a w).main = s.main := by simp [State.writeMem16]
@[simp] theorem State.writeMem16_alt (s : State) (a : Word) (w : Word) : (s.writeMem16 a w).alt = s.alt := by simp [State.writeMem16]
@[simp] theorem State.writeMem16_ix (s : State) (a : Word) (w : Word) : (s.writeMem16 a w).ix = s.ix := by simp [State.writeMem16]
@[simp] theorem State.writeMem16_iy (s : State) (a : Word) (w : Word) : (s.writeMem16 a w).iy = s.iy := by simp [State.writeMem16]
@[simp] theorem State.writeMem16_sp (s : State) (a : Word) (w : Word) : (s.writeMem16 a w).sp = s.sp := by simp [State.writeMem16]
@[simp] theorem State.writeMem16_pc (s : State) (a : Word) (w : Word) : (s.writeMem16 a w).pc = s.pc := by simp [State.writeMem16]
@[simp] theorem State.writeMem16_i (s : State) (a : Word) (w : Word) : (s.writeMem16 a w).i = s.i := by simp [State.writeMem16]
@[simp] theorem State.writeMem16_r (s : State) (a : Word) (w : Word) : (s.writeMem16 a w).r = s.r := by simp [State.writeMem16]
@[simp] theorem State.writeMem16_iff1 (s : State) (a : Word) (w : Word) : (s.writeMem16 a w).iff1 = s.iff1 := by simp [State.writeMem16]
@[simp] theorem State.writeMem16_iff2 (s : State) (a : Word) (w : Word) : (s.writeMem16 a w).iff2 = s.iff2 := by simp [State.writeMem16]
@[simp] theorem State.writeMem16_im (s : State) (a : Word) (w : Word) : (s.writeMem16 a w).im = s.im := by simp [State.writeMem16]
@[simp] theorem State.writeMem16_halted (s : State) (a : Word) (w : Word) : (s.writeMem16 a w).halted = s.halted := by simp [State.writeMem16]
@[simp] theorem State.writeMem16_intLatch (s : State) (a : Word) (w : Word) : (s.writeMem16 a w).intLatch = s.intLatch := by simp [State.writeMem16]
@[simp] theorem State.writeMem16_nmiLatch (s : State) (a : Word) (w : Word) : (s.writeMem16 a w).nmiLatch = s.nmiLatch := by simp [State.writeMem16]
@[simp] theorem State.writeMem16_eiDelay (s : State) (a : Word) (w : Word) : (s.writeMem16 a w).eiDelay = s.eiDelay := by simp [State.writeMem16]
@[simp] theorem State.writeMem16_pendingPrefix (s : State) (a : Word) (w : Word) : (s.writeMem16 a w).pendingPrefix = s.pendingPrefix := by simp [State.writeMem16]
@[simp] theorem State.writeMem16_memptr (s : State) (a : Word) (w : Word) : (s.writeMem16 a w).memptr = s.memptr := by simp [State.writeMem16]
@[simp] theorem State.writeMem16_q (s : State) (a : Word) (w : Word) : (s.writeMem16 a w).q = s.q := by simp [State.writeMem16]
@[simp] theorem State.writeMem16_mem (s : State) (a : Word) (w : Word) : (s.writeMem16 a w).mem = Memory.write (Memory.write s.mem a.toNat (loByte w)) (a + 1#16).toNat (hiByte w) := by simp [State.writeMem16]
@[simp] theorem State.writeMem16_params (s : State) (a : Word) (w : Word) : (s.writeMem16 a w).params = s.params := by simp [State.writeMem16]
@[simp] theorem State.writeMem16_pollAnswers (s : State) (a : Word) (w : Word) : (s.writeMem16 a w).pollAnswers = s.pollAnswers := by simp [State.writeMem16]
@[simp] theorem State.writeMem16_vectorAnswers (s : State) (a : Word) (w : Word) : (s.writeMem16 a w).vectorAnswers = s.vectorAnswers := by simp [State.writeMem16]
@[simp] theorem State.writeMem16_ioAnswers (s : State) (a : Word) (w : Word) : (s.writeMem16 a w).ioAnswers = s.ioAnswers := by simp [State.writeMem16]
@[simp] theorem State.writeMem16_draws (s : State) (a : Word) (w : Word) : (s.writeMem16 a w).draws = s.draws := by simp [State.writeMem16]
@[simp] theorem State.writeMem16_calls (s : State) (a : Word) (w : Word) : (s.writeMem16 a w).calls = s.calls ++ [.writeMem a (loByte w)] ++ [.writeMem (a + 1#16) (hiByte w)] := by simp [State.writeMem16]
@[simp] theorem State.writeMem16_cycles (s : State) (a : Word) (w : Word) : (s.writeMem16 a w).cycles = s.cycles := by simp [State.writeMem16]

@[simp] theorem State.push16_main (s : State) (w : Word) : (s.push16 w).main = s.main := by simp [State.push16]
@[simp] theorem State.push16_alt (s : State) (w : Word) : (s.push16 w).alt = s.alt := by simp [State.push16]
@[simp] theorem State.push16_ix (s : State) (w : Word) : (s.push16 w).ix = s.ix := by simp [State.push16]
@[simp] theorem State.push16_iy (s : State) (w : Word) : (s.push16 w).iy = s.iy := by simp [State.push16]
@[simp] theorem State.push16_sp (s : State) (w : Word) : (s.push16 w).sp = s.sp - 2#16 := by simp [State.push16]
@[simp] theorem State.push16_pc (s : State) (w : Word) : (s.push16 w).pc = s.pc := by simp [State.push16]
@[simp] theorem State.push16_i (s : State) (w : Word) : (s.push16 w).i = s.i := by simp [State.push16]
@[simp] theorem State.push16_r (s : State) (w : Word) : (s.push16 w).r = s.r := by simp [State.push16]
@[simp] theorem State.push16_iff1 (s : State) (w : Word) : (s.push16 w).iff1 = s.iff1 := by simp [State.push16]
@[simp] theorem State.push16_iff2 (s : State) (w : Word) : (s.push16 w).iff2 = s.iff2 := by simp [State.push16]
@[simp] theorem State.push16_im (s : State) (w : Word) : (s.push16 w).im = s.im := by simp [State.push16]
@[simp] theorem State.push16_halted (s : State) (w : Word) : (s.push16 w).halted = s.halted := by simp [State.push16]
@[simp] theorem State.push16_intLatch (s : State) (w : Word) : (s.push16 w).intLatch = s.intLatch := by simp [State.push16]
@[simp] theorem State.push16_nmiLatch (s : State) (w : Word) : (s.push16 w).nmiLatch = s.nmiLatch := by simp [State.push16]
@[simp] theorem State.push16_eiDelay (s : State) (w : Word) : (s.push16 w).eiDelay = s.eiDelay := by simp [State.push16]
@[simp] theorem State.push16_pendingPrefix (s : State) (w : Word) : (s.push16 w).pendingPrefix = s.pendingPrefix := by simp [State.push16]
@[simp] theorem State.push16_memptr (s : State) (w : Word) : (s.push16 w).memptr = s.memptr := by simp [State.push16]
@[simp] theorem State.push16_q (s : State) (w : Word) : (s.push16 w).q = s.q := by simp [State.push16]
@[simp] theorem State.push16_mem (s : State) (w : Word) : (s.push16 w).mem = Memory.write (Memory.write s.mem (s.sp - 1#16).toNat (hiByte w)) (s.sp - 2#16).toNat (loByte w) := by simp [State.push16]
@[simp] theorem State.push16_params (s : State) (w : Word) : (s.push16 w).params = s.params := by simp [State.push16]
@[simp] theorem State.push16_pollAnswers (s : State) (w : Word) : (s.push16 w).pollAnswers = s.pollAnswers := by simp [State.push16]
@[simp] theorem State.push16_vectorAnswers (s : State) (w : Word) : (s.push16 w).vectorAnswers = s.vectorAnswers := by simp [State.push16]
@[simp] theorem State.push16_ioAnswers (s : State) (w : Word) : (s.push16 w).ioAnswers = s.ioAnswers := by simp [State.push16]
@[simp] theorem State.push16_draws (s : State) (w : Word) : (s.push16 w).draws = s.draws := by simp [State.push16]
@[simp] theorem State.push16_calls (s : State) (w : Word) : (s.push16 w).calls = s.calls ++ [.writeMem (s.sp - 1#16) (hiByte w)] ++ [.writeMem (s.sp - 2#16) (loByte w)] := by simp [State.push16]
@[simp] theorem State.push16_cycles (s : State) (w : Word) : (s.push16 w).cycles = s.cycles := by simp [State.push16]

@[simp] theorem State.wake_main (s : State) : (s.wake).main = s.main := rfl
@[simp] theorem State.wake_alt (s : State) : (s.wake).alt = s.alt := rfl
@[simp] theorem State.wake_ix (s : State) : (s.wake).ix = s.ix := rfl
@[simp] theorem State.wake_iy (s : State) : (s.wake).iy = s.iy := rfl
@[simp] theorem State.wake_sp (s : State) : (s.wake).sp = s.sp := rfl
@[simp] theorem State.wake_pc (s : State) : (s.wake).pc = s.pc := rfl
@[simp] theorem State.wake_i (s : State) : (s.wake).i = s.i := rfl
@[simp] theorem State.wake_r (s : State) : (s.wake).r = s.r := rfl
@[simp] theorem State.wake_iff1 (s : State) : (s.wake).iff1 = s.iff1 := rfl
@[simp] theorem State.wake_iff2 (s : State) : (s.wake).iff2 = s.iff2 := rfl
@[simp] theorem State.wake_im (s : State) : (s.wake).im = s.im := rfl
@[simp] theorem State.wake_halted (s : State) : (s.wake).halted = false := rfl
@[simp] theorem State.wake_intLatch (s : State) : (s.wake).intLatch = s.intLatch := rfl
@[simp] theorem State.wake_nmiLatch (s : State) : (s.wake).nmiLatch = s.nmiLatch := rfl
@[simp] theorem State.wake_eiDelay (s : State) : (s.wake).eiDelay = s.eiDelay := rfl
@[simp] theorem State.wake_pendingPrefix (s : State) : (s.wake).pendingPrefix = s.pendingPrefix := rfl
@[simp] theorem State.wake_memptr (s : State) : (s.wake).memptr = s.memptr := rfl
@[simp] theorem State.wake_q (s : State) : (s.wake).q = s.q := rfl
@[simp] theorem State.wake_mem (s : State) : (s.wake).mem = s.mem := rfl
@[simp] theorem State.wake_params (s : State) : (s.wake).params = s.params := rfl
@[simp] theorem State.wake_pollAnswers (s : State) : (s.wake).pollAnswers = s.pollAnswers := rfl
@[simp] theorem State.wake_vectorAnswers (s : State) : (s.wake).vectorAnswers = s.vectorAnswers := rfl
@[simp] theorem State.wake_ioAnswers (s : State) : (s.wake).ioAnswers = s.ioAnswers := rfl
@[simp] theorem State.wake_draws (s : State) : (s.wake).draws = s.draws := rfl
@[simp] theorem State.wake_calls (s : State) : (s.wake).calls = s.calls := rfl
@[simp] theorem State.wake_cycles (s : State) : (s.wake).cycles = s.cycles := rfl
@[simp] theorem State.wake_peek (s : State) (x : Word) : (s.wake).peek x = s.peek x := rfl

@[simp] theorem State.nextIo_main (s : State) : (s.nextIo).main = s.main := rfl
@[simp] theorem State.nextIo_alt (s : State) : (s.nextIo).alt = s.alt := rfl
@[simp] theorem State.nextIo_ix (s : State) : (s.nextIo).ix = s.ix := rfl
@[simp] theorem State.nextIo_iy (s : State) : (s.nextIo).iy = s.iy := rfl
@[simp] theorem State.nextIo_sp (s : State) : (s.nextIo).sp = s.sp := rfl
@[simp] theorem State.nextIo_pc (s : State) : (s.nextIo).pc = s.pc := rfl
@[simp] theorem State.nextIo_i (s : State) : (s.nextIo).i = s.i := rfl
@[simp] theorem State.nextIo_r (s : State) : (s.nextIo).r = s.r := rfl
@[simp] theorem State.nextIo_iff1 (s : State) : (s.nextIo).iff1 = s.iff1 := rfl
@[simp] theorem State.nextIo_iff2 (s : State) : (s.nextIo).iff2 = s.iff2 := rfl
@[simp] theorem State.nextIo_im (s : State) : (s.nextIo).im = s.im := rfl
@[simp] theorem State.nextIo_halted (s : State) : (s.nextIo).halted = s.halted := rfl
@[simp] theorem State.nextIo_intLatch (s : State) : (s.nextIo).intLatch = s.intLatch := rfl
@[simp] theorem State.nextIo_nmiLatch (s : State) : (s.nextIo).nmiLatch = s.nmiLatch := rfl
@[simp] theorem State.nextIo_eiDelay (s : State) : (s.nextIo).eiDelay = s.eiDelay := rfl
@[simp] theorem State.nextIo_pendingPrefix (s : State) : (s.nextIo).pendingPrefix = s.pendingPrefix := rfl
@[simp] theorem State.nextIo_memptr (s : State) : (s.nextIo).memptr = s.memptr := rfl
@[simp] theorem State.nextIo_q (s : State) : (s.nextIo).q = s.q := rfl
@[simp] theorem State.nextIo_mem (s : State) : (s.nextIo).mem = s.mem := rfl
@[simp] theorem State.nextIo_params (s : State) : (s.nextIo).params = s.params := rfl
@[simp] theorem State.nextIo_pollAnswers (s : State) : (s.nextIo).pollAnswers = s.pollAnswers := rfl
@[simp] theorem State.nextIo_vectorAnswers (s : State) : (s.nextIo).vectorAnswers = s.vectorAnswers := rfl
@[simp] theorem State.nextIo_ioAnswers (s : State) : (s.nextIo).ioAnswers = s.ioAnswers.tail := rfl
@[simp] theorem State.nextIo_draws (s : State) : (s.nextIo).draws = if s.ioAnswers.isEmpty then s.draws + 1 else s.draws := rfl
@[simp] theorem State.nextIo_calls (s : State) : (s.nextIo).calls = s.calls := rfl
@[simp] theorem State.nextIo_cycles (s : State) : (s.nextIo).cycles = s.cycles := rfl
@[simp] theorem State.nextIo_peek (s : State) (x : Word) : (s.nextIo).peek x = s.peek x := rfl

@[simp] theorem State.beginStep_main (s : State) : (s.beginStep).main = s.main := rfl
@[simp] theorem State.beginStep_alt (s : State) : (s.beginStep).alt = s.alt := rfl
@[simp] theorem State.beginStep_ix (s : State) : (s.beginStep).ix = s.ix := rfl
@[simp] theorem State.beginStep_iy (s : State) : (s.beginStep).iy = s.iy := rfl
@[simp] theorem State.beginStep_sp (s : State) : (s.beginStep).sp = s.sp := rfl
@[simp] theorem State.beginStep_pc (s : State) : (s.beginStep).pc = s.pc := rfl
@[simp] theorem State.beginStep_i (s : State) : (s.beginStep).i = s.i := rfl
@[simp] theorem State.beginStep_r (s : State) : (s.beginStep).r = s.r := rfl
@[simp] theorem State.beginStep_iff1 (s : State) : (s.beginStep).iff1 = s.iff1 := rfl
@[simp] theorem State.beginStep_iff2 (s : State) : (s.beginStep).iff2 = s.iff2 := rfl
@[simp] theorem State.beginStep_im (s : State) : (s.beginStep).im = s.im := rfl
@[simp] theorem State.beginStep_halted (s : State) : (s.beginStep).halted = s.halted := rfl
@[simp] theorem State.beginStep_intLatch (s : State) : (s.beginStep).intLatch = s.intLatch := rfl
@[simp] theorem State.beginStep_nmiLatch (s : State) : (s.beginStep).nmiLatch = s.nmiLatch := rfl
@[simp] theorem State.beginStep_eiDelay (s : State) : (s.beginStep).eiDelay = false := rfl
@[simp] theorem State.beginStep_pendingPrefix (s : State) : (s.beginStep).pendingPrefix = s.pendingPrefix := rfl
@[simp] theorem State.beginStep_memptr (s : State) : (s.beginStep).memptr = s.memptr := rfl
@[simp] theorem State.beginStep_q (s : State) : (s.beginStep).q = s.q := rfl
@[simp] theorem State.beginStep_mem (s : State) : (s.beginStep).mem = s.mem := rfl
@[simp] theorem State.beginStep_params (s : State) : (s.beginStep).params = s.params := rfl
@[simp] theorem State.beginStep_pollAnswers (s : State) : (s.beginStep).pollAnswers = s.pollAnswers.tail := rfl
@[simp] theorem State.beginStep_vectorAnswers (s : State) : (s.beginStep).vectorAnswers = s.vectorAnswers := rfl
@[simp] theorem State.beginStep_ioAnswers (s : State) : (s.beginStep).ioAnswers = s.ioAnswers := rfl
@[simp] theorem State.beginStep_draws (s : State) :
    (s.beginStep).draws = if s.pollAnswers.isEmpty then s.draws + 1 else s.draws := rfl
@[simp] theorem State.beginStep_calls (s : State) : (s.beginStep).calls = [.pollPending s.pollAnswer] := rfl
@[simp] theorem State.beginStep_cycles (s : State) : (s.beginStep).cycles = s.cycles := rfl
@[simp] theorem State.beginStep_peek (s : State) (x : Word) : (s.beginStep).peek x = s.peek x := rfl

@[simp] theorem State.noteQ_main (s : State) (w : Bool) : (s.noteQ w).main = s.main := rfl
@[simp] theorem State.noteQ_alt (s : State) (w : Bool) : (s.noteQ w).alt = s.alt := rfl
@[simp] theorem State.noteQ_ix (s : State) (w : Bool) : (s.noteQ w).ix = s.ix := rfl
@[simp] theorem State.noteQ_iy (s : State) (w : Bool) : (s.noteQ w).iy = s.iy := rfl
@[simp] theorem State.noteQ_sp (s : State) (w : Bool) : (s.noteQ w).sp = s.sp := rfl
@[simp] theorem State.noteQ_pc (s : State) (w : Bool) : (s.noteQ w).pc = s.pc := rfl
@[simp] theorem State.noteQ_i (s : State) (w : Bool) : (s.noteQ w).i = s.i := rfl
@[simp] theorem State.noteQ_r (s : State) (w : Bool) : (s.noteQ w).r = s.r := rfl
@[simp] theorem State.noteQ_iff1 (s : State) (w : Bool) : (s.noteQ w).iff1 = s.iff1 := rfl
@[simp] theorem State.noteQ_iff2 (s : State) (w : Bool) : (s.noteQ w).iff2 = s.iff2 := rfl
@[simp] theorem State.noteQ_im (s : State) (w : Bool) : (s.noteQ w).im = s.im := rfl
@[simp] theorem State.noteQ_halted (s : State) (w : Bool) : (s.noteQ w).halted = s.halted := rfl
@[simp] theorem State.noteQ_intLatch (s : State) (w : Bool) : (s.noteQ w).intLatch = s.intLatch := rfl
@[simp] theorem State.noteQ_nmiLatch (s : State) (w : Bool) : (s.noteQ w).nmiLatch = s.nmiLatch := rfl
@[simp] theorem State.noteQ_eiDelay (s : State) (w : Bool) : (s.noteQ w).eiDelay = s.eiDelay := rfl
@[simp] theorem State.noteQ_pendingPrefix (s : State) (w : Bool) : (s.noteQ w).pendingPrefix = s.pendingPrefix := rfl
@[simp] theorem State.noteQ_memptr (s : State) (w : Bool) : (s.noteQ w).memptr = s.memptr := rfl
@[simp] theorem State.noteQ_q (s : State) (w : Bool) : (s.noteQ w).q = (decide (s.params.scfCcfYx = .qModel) && w) := rfl
@[simp] theorem State.noteQ_mem (s : State) (w : Bool) : (s.noteQ w).mem = s.mem := rfl
@[simp] theorem State.noteQ_params (s : State) (w : Bool) : (s.noteQ w).params = s.params := rfl
@[simp] theorem State.noteQ_pollAnswers (s : State) (w : Bool) : (s.noteQ w).pollAnswers = s.pollAnswers := rfl
@[simp] theorem State.noteQ_vectorAnswers (s : State) (w : Bool) : (s.noteQ w).vectorAnswers = s.vectorAnswers := rfl
@[simp] theorem State.noteQ_ioAnswers (s : State) (w : Bool) : (s.noteQ w).ioAnswers = s.ioAnswers := rfl
@[simp] theorem State.noteQ_draws (s : State) (w : Bool) : (s.noteQ w).draws = s.draws := rfl
@[simp] theorem State.noteQ_calls (s : State) (w : Bool) : (s.noteQ w).calls = s.calls := rfl
@[simp] theorem State.noteQ_cycles (s : State) (w : Bool) : (s.noteQ w).cycles = s.cycles := rfl
@[simp] theorem State.noteQ_peek (s : State) (w : Bool) (x : Word) : (s.noteQ w).peek x = s.peek x := rfl

@[simp] theorem State.setPair_alt (s : State) (p : Pair) (v : Word) : (s.setPair p v).alt = s.alt := by cases p <;> rfl
@[simp] theorem State.setPair_ix (s : State) (p : Pair) (v : Word) : (s.setPair p v).ix = s.ix := by cases p <;> rfl
@[simp] theorem State.setPair_iy (s : State) (p : Pair) (v : Word) : (s.setPair p v).iy = s.iy := by cases p <;> rfl
@[simp] theorem State.setPair_pc (s : State) (p : Pair) (v : Word) : (s.setPair p v).pc = s.pc := by cases p <;> rfl
@[simp] theorem State.setPair_i (s : State) (p : Pair) (v : Word) : (s.setPair p v).i = s.i := by cases p <;> rfl
@[simp] theorem State.setPair_r (s : State) (p : Pair) (v : Word) : (s.setPair p v).r = s.r := by cases p <;> rfl
@[simp] theorem State.setPair_iff1 (s : State) (p : Pair) (v : Word) : (s.setPair p v).iff1 = s.iff1 := by cases p <;> rfl
@[simp] theorem State.setPair_iff2 (s : State) (p : Pair) (v : Word) : (s.setPair p v).iff2 = s.iff2 := by cases p <;> rfl
@[simp] theorem State.setPair_im (s : State) (p : Pair) (v : Word) : (s.setPair p v).im = s.im := by cases p <;> rfl
@[simp] theorem State.setPair_halted (s : State) (p : Pair) (v : Word) : (s.setPair p v).halted = s.halted := by cases p <;> rfl
@[simp] theorem State.setPair_intLatch (s : State) (p : Pair) (v : Word) : (s.setPair p v).intLatch = s.intLatch := by cases p <;> rfl
@[simp] theorem State.setPair_nmiLatch (s : State) (p : Pair) (v : Word) : (s.setPair p v).nmiLatch = s.nmiLatch := by cases p <;> rfl
@[simp] theorem State.setPair_eiDelay (s : State) (p : Pair) (v : Word) : (s.setPair p v).eiDelay = s.eiDelay := by cases p <;> rfl
@[simp] theorem State.setPair_pendingPrefix (s : State) (p : Pair) (v : Word) : (s.setPair p v).pendingPrefix = s.pendingPrefix := by cases p <;> rfl
@[simp] theorem State.setPair_memptr (s : State) (p : Pair) (v : Word) : (s.setPair p v).memptr = s.memptr := by cases p <;> rfl
@[simp] theorem State.setPair_q (s : State) (p : Pair) (v : Word) : (s.setPair p v).q = s.q := by cases p <;> rfl
@[simp] theorem State.setPair_mem (s : State) (p : Pair) (v : Word) : (s.setPair p v).mem = s.mem := by cases p <;> rfl
@[simp] theorem State.setPair_params (s : State) (p : Pair) (v : Word) : (s.setPair p v).params = s.params := by cases p <;> rfl
@[simp] theorem State.setPair_pollAnswers (s : State) (p : Pair) (v : Word) : (s.setPair p v).pollAnswers = s.pollAnswers := by cases p <;> rfl
@[simp] theorem State.setPair_vectorAnswers (s : State) (p : Pair) (v : Word) : (s.setPair p v).vectorAnswers = s.vectorAnswers := by cases p <;> rfl
@[simp] theorem State.setPair_ioAnswers (s : State) (p : Pair) (v : Word) : (s.setPair p v).ioAnswers = s.ioAnswers := by cases p <;> rfl
@[simp] theorem State.setPair_draws (s : State) (p : Pair) (v : Word) : (s.setPair p v).draws = s.draws := by cases p <;> rfl
@[simp] theorem State.setPair_calls (s : State) (p : Pair) (v : Word) : (s.setPair p v).calls = s.calls := by cases p <;> rfl
@[simp] theorem State.setPair_cycles (s : State) (p : Pair) (v : Word) : (s.setPair p v).cycles = s.cycles := by cases p <;> rfl
@[simp] theorem State.setPair_peek (s : State) (p : Pair) (v : Word) (y : Word) : (s.setPair p v).peek y = s.peek y := by cases p <;> rfl

@[simp] theorem State.setStackPair_alt (s : State) (p : StackPair) (v : Word) : (s.setStackPair p v).alt = s.alt := by cases p <;> rfl
@[simp] theorem State.setStackPair_ix (s : State) (p : StackPair) (v : Word) : (s.setStackPair p v).ix = s.ix := by cases p <;> rfl
@[simp] theorem State.setStackPair_iy (s : State) (p : StackPair) (v : Word) : (s.setStackPair p v).iy = s.iy := by cases p <;> rfl
@[simp] theorem State.setStackPair_sp (s : State) (p : StackPair) (v : Word) : (s.setStackPair p v).sp = s.sp := by cases p <;> rfl
@[simp] theorem State.setStackPair_pc (s : State) (p : StackPair) (v : Word) : (s.setStackPair p v).pc = s.pc := by cases p <;> rfl
@[simp] theorem State.setStackPair_i (s : State) (p : StackPair) (v : Word) : (s.setStackPair p v).i = s.i := by cases p <;> rfl
@[simp] theorem State.setStackPair_r (s : State) (p : StackPair) (v : Word) : (s.setStackPair p v).r = s.r := by cases p <;> rfl
@[simp] theorem State.setStackPair_iff1 (s : State) (p : StackPair) (v : Word) : (s.setStackPair p v).iff1 = s.iff1 := by cases p <;> rfl
@[simp] theorem State.setStackPair_iff2 (s : State) (p : StackPair) (v : Word) : (s.setStackPair p v).iff2 = s.iff2 := by cases p <;> rfl
@[simp] theorem State.setStackPair_im (s : State) (p : StackPair) (v : Word) : (s.setStackPair p v).im = s.im := by cases p <;> rfl
@[simp] theorem State.setStackPair_halted (s : State) (p : StackPair) (v : Word) : (s.setStackPair p v).halted = s.halted := by cases p <;> rfl
@[simp] theorem State.setStackPair_intLatch (s : State) (p : StackPair) (v : Word) : (s.setStackPair p v).intLatch = s.intLatch := by cases p <;> rfl
@[simp] theorem State.setStackPair_nmiLatch (s : State) (p : StackPair) (v : Word) : (s.setStackPair p v).nmiLatch = s.nmiLatch := by cases p <;> rfl
@[simp] theorem State.setStackPair_eiDelay (s : State) (p : StackPair) (v : Word) : (s.setStackPair p v).eiDelay = s.eiDelay := by cases p <;> rfl
@[simp] theorem State.setStackPair_pendingPrefix (s : State) (p : StackPair) (v : Word) : (s.setStackPair p v).pendingPrefix = s.pendingPrefix := by cases p <;> rfl
@[simp] theorem State.setStackPair_memptr (s : State) (p : StackPair) (v : Word) : (s.setStackPair p v).memptr = s.memptr := by cases p <;> rfl
@[simp] theorem State.setStackPair_q (s : State) (p : StackPair) (v : Word) : (s.setStackPair p v).q = s.q := by cases p <;> rfl
@[simp] theorem State.setStackPair_mem (s : State) (p : StackPair) (v : Word) : (s.setStackPair p v).mem = s.mem := by cases p <;> rfl
@[simp] theorem State.setStackPair_params (s : State) (p : StackPair) (v : Word) : (s.setStackPair p v).params = s.params := by cases p <;> rfl
@[simp] theorem State.setStackPair_pollAnswers (s : State) (p : StackPair) (v : Word) : (s.setStackPair p v).pollAnswers = s.pollAnswers := by cases p <;> rfl
@[simp] theorem State.setStackPair_vectorAnswers (s : State) (p : StackPair) (v : Word) : (s.setStackPair p v).vectorAnswers = s.vectorAnswers := by cases p <;> rfl
@[simp] theorem State.setStackPair_ioAnswers (s : State) (p : StackPair) (v : Word) : (s.setStackPair p v).ioAnswers = s.ioAnswers := by cases p <;> rfl
@[simp] theorem State.setStackPair_draws (s : State) (p : StackPair) (v : Word) : (s.setStackPair p v).draws = s.draws := by cases p <;> rfl
@[simp] theorem State.setStackPair_calls (s : State) (p : StackPair) (v : Word) : (s.setStackPair p v).calls = s.calls := by cases p <;> rfl
@[simp] theorem State.setStackPair_cycles (s : State) (p : StackPair) (v : Word) : (s.setStackPair p v).cycles = s.cycles := by cases p <;> rfl
@[simp] theorem State.setStackPair_peek (s : State) (p : StackPair) (v : Word) (y : Word) : (s.setStackPair p v).peek y = s.peek y := by cases p <;> rfl

@[simp] theorem State.setIdx_main (s : State) (p : Idx) (v : Word) : (s.setIdx p v).main = s.main := by cases p <;> rfl
@[simp] theorem State.setIdx_alt (s : State) (p : Idx) (v : Word) : (s.setIdx p v).alt = s.alt := by cases p <;> rfl
@[simp] theorem State.setIdx_sp (s : State) (p : Idx) (v : Word) : (s.setIdx p v).sp = s.sp := by cases p <;> rfl
@[simp] theorem State.setIdx_pc (s : State) (p : Idx) (v : Word) : (s.setIdx p v).pc = s.pc := by cases p <;> rfl
@[simp] theorem State.setIdx_i (s : State) (p : Idx) (v : Word) : (s.setIdx p v).i = s.i := by cases p <;> rfl
@[simp] theorem State.setIdx_r (s : State) (p : Idx) (v : Word) : (s.setIdx p v).r = s.r := by cases p <;> rfl
@[simp] theorem State.setIdx_iff1 (s : State) (p : Idx) (v : Word) : (s.setIdx p v).iff1 = s.iff1 := by cases p <;> rfl
@[simp] theorem State.setIdx_iff2 (s : State) (p : Idx) (v : Word) : (s.setIdx p v).iff2 = s.iff2 := by cases p <;> rfl
@[simp] theorem State.setIdx_im (s : State) (p : Idx) (v : Word) : (s.setIdx p v).im = s.im := by cases p <;> rfl
@[simp] theorem State.setIdx_halted (s : State) (p : Idx) (v : Word) : (s.setIdx p v).halted = s.halted := by cases p <;> rfl
@[simp] theorem State.setIdx_intLatch (s : State) (p : Idx) (v : Word) : (s.setIdx p v).intLatch = s.intLatch := by cases p <;> rfl
@[simp] theorem State.setIdx_nmiLatch (s : State) (p : Idx) (v : Word) : (s.setIdx p v).nmiLatch = s.nmiLatch := by cases p <;> rfl
@[simp] theorem State.setIdx_eiDelay (s : State) (p : Idx) (v : Word) : (s.setIdx p v).eiDelay = s.eiDelay := by cases p <;> rfl
@[simp] theorem State.setIdx_pendingPrefix (s : State) (p : Idx) (v : Word) : (s.setIdx p v).pendingPrefix = s.pendingPrefix := by cases p <;> rfl
@[simp] theorem State.setIdx_memptr (s : State) (p : Idx) (v : Word) : (s.setIdx p v).memptr = s.memptr := by cases p <;> rfl
@[simp] theorem State.setIdx_q (s : State) (p : Idx) (v : Word) : (s.setIdx p v).q = s.q := by cases p <;> rfl
@[simp] theorem State.setIdx_mem (s : State) (p : Idx) (v : Word) : (s.setIdx p v).mem = s.mem := by cases p <;> rfl
@[simp] theorem State.setIdx_params (s : State) (p : Idx) (v : Word) : (s.setIdx p v).params = s.params := by cases p <;> rfl
@[simp] theorem State.setIdx_pollAnswers (s : State) (p : Idx) (v : Word) : (s.setIdx p v).pollAnswers = s.pollAnswers := by cases p <;> rfl
@[simp] theorem State.setIdx_vectorAnswers (s : State) (p : Idx) (v : Word) : (s.setIdx p v).vectorAnswers = s.vectorAnswers := by cases p <;> rfl
@[simp] theorem State.setIdx_ioAnswers (s : State) (p : Idx) (v : Word) : (s.setIdx p v).ioAnswers = s.ioAnswers := by cases p <;> rfl
@[simp] theorem State.setIdx_draws (s : State) (p : Idx) (v : Word) : (s.setIdx p v).draws = s.draws := by cases p <;> rfl
@[simp] theorem State.setIdx_calls (s : State) (p : Idx) (v : Word) : (s.setIdx p v).calls = s.calls := by cases p <;> rfl
@[simp] theorem State.setIdx_cycles (s : State) (p : Idx) (v : Word) : (s.setIdx p v).cycles = s.cycles := by cases p <;> rfl
@[simp] theorem State.setIdx_peek (s : State) (p : Idx) (v : Word) (y : Word) : (s.setIdx p v).peek y = s.peek y := by cases p <;> rfl

@[simp] theorem State.setHalf_main (s : State) (ii : Idx) (x : Half) (v : Byte) : (s.setHalf ii x v).main = s.main := by cases x <;> cases ii <;> rfl
@[simp] theorem State.setHalf_alt (s : State) (ii : Idx) (x : Half) (v : Byte) : (s.setHalf ii x v).alt = s.alt := by cases x <;> cases ii <;> rfl
@[simp] theorem State.setHalf_sp (s : State) (ii : Idx) (x : Half) (v : Byte) : (s.setHalf ii x v).sp = s.sp := by cases x <;> cases ii <;> rfl
@[simp] theorem State.setHalf_pc (s : State) (ii : Idx) (x : Half) (v : Byte) : (s.setHalf ii x v).pc = s.pc := by cases x <;> cases ii <;> rfl
@[simp] theorem State.setHalf_i (s : State) (ii : Idx) (x : Half) (v : Byte) : (s.setHalf ii x v).i = s.i := by cases x <;> cases ii <;> rfl
@[simp] theorem State.setHalf_r (s : State) (ii : Idx) (x : Half) (v : Byte) : (s.setHalf ii x v).r = s.r := by cases x <;> cases ii <;> rfl
@[simp] theorem State.setHalf_iff1 (s : State) (ii : Idx) (x : Half) (v : Byte) : (s.setHalf ii x v).iff1 = s.iff1 := by cases x <;> cases ii <;> rfl
@[simp] theorem State.setHalf_iff2 (s : State) (ii : Idx) (x : Half) (v : Byte) : (s.setHalf ii x v).iff2 = s.iff2 := by cases x <;> cases ii <;> rfl
@[simp] theorem State.setHalf_im (s : State) (ii : Idx) (x : Half) (v : Byte) : (s.setHalf ii x v).im = s.im := by cases x <;> cases ii <;> rfl
@[simp] theorem State.setHalf_halted (s : State) (ii : Idx) (x : Half) (v : Byte) : (s.setHalf ii x v).halted = s.halted := by cases x <;> cases ii <;> rfl
@[simp] theorem State.setHalf_intLatch (s : State) (ii : Idx) (x : Half) (v : Byte) : (s.setHalf ii x v).intLatch = s.intLatch := by cases x <;> cases ii <;> rfl
@[simp] theorem State.setHalf_nmiLatch (s : State) (ii : Idx) (x : Half) (v : Byte) : (s.setHalf ii x v).nmiLatch = s.nmiLatch := by cases x <;> cases ii <;> rfl
@[simp] theorem State.setHalf_eiDelay (s : State) (ii : Idx) (x : Half) (v : Byte) : (s.setHalf ii x v).eiDelay = s.eiDelay := by cases x <;> cases ii <;> rfl
@[simp] theorem State.setHalf_pendingPrefix (s : State) (ii : Idx) (x : Half) (v : Byte) : (s.setHalf ii x v).pendingPrefix = s.pendingPrefix := by cases x <;> cases ii <;> rfl
@[simp] theorem State.setHalf_memptr (s : State) (ii : Idx) (x : Half) (v : Byte) : (s.setHalf ii x v).memptr = s.memptr := by cases x <;> cases ii <;> rfl
@[simp] theorem State.setHalf_q (s : State) (ii : Idx) (x : Half) (v : Byte) : (s.setHalf ii x v).q = s.q := by cases x <;> cases ii <;> rfl
@[simp] theorem State.setHalf_mem (s : State) (ii : Idx) (x : Half) (v : Byte) : (s.setHalf ii x v).mem = s.mem := by cases x <;> cases ii <;> rfl
@[simp] theorem State.setHalf_params (s : State) (ii : Idx) (x : Half) (v : Byte) : (s.setHalf ii x v).params = s.params := by cases x <;> cases ii <;> rfl
@[simp] theorem State.setHalf_pollAnswers (s : State) (ii : Idx) (x : Half) (v : Byte) : (s.setHalf ii x v).pollAnswers = s.pollAnswers := by cases x <;> cases ii <;> rfl
@[simp] theorem State.setHalf_vectorAnswers (s : State) (ii : Idx) (x : Half) (v : Byte) : (s.setHalf ii x v).vectorAnswers = s.vectorAnswers := by cases x <;> cases ii <;> rfl
@[simp] theorem State.setHalf_ioAnswers (s : State) (ii : Idx) (x : Half) (v : Byte) : (s.setHalf ii x v).ioAnswers = s.ioAnswers := by cases x <;> cases ii <;> rfl
@[simp] theorem State.setHalf_draws (s : State) (ii : Idx) (x : Half) (v : Byte) : (s.setHalf ii x v).draws = s.draws := by cases x <;> cases ii <;> rfl
@[simp] theorem State.setHalf_calls (s : State) (ii : Idx) (x : Half) (v : Byte) : (s.setHalf ii x v).calls = s.calls := by cases x <;> cases ii <;> rfl
@[simp] theorem State.setHalf_cycles (s : State) (ii : Idx) (x : Half) (v : Byte) : (s.setHalf ii x v).cycles = s.cycles := by cases x <;> cases ii <;> rfl
@[simp] theorem State.setHalf_peek (s : State) (ii : Idx) (x : Half) (v : Byte) (y : Word) : (s.setHalf ii x v).peek y = s.peek y := by cases x <;> cases ii <;> rfl

@[simp] theorem State.setIdxReg_alt (s : State) (ii : Idx) (k : Reg8) (v : Byte) : (s.setIdxReg ii k v).alt = s.alt := by cases k <;> cases ii <;> rfl
@[simp] theorem State.setIdxReg_sp (s : State) (ii : Idx) (k : Reg8) (v : Byte) : (s.setIdxReg ii k v).sp = s.sp := by cases k <;> cases ii <;> rfl
@[simp] theorem State.setIdxReg_pc (s : State) (ii : Idx) (k : Reg8) (v : Byte) : (s.setIdxReg ii k v).pc = s.pc := by cases k <;> cases ii <;> rfl
@[simp] theorem State.setIdxReg_i (s : State) (ii : Idx) (k : Reg8) (v : Byte) : (s.setIdxReg ii k v).i = s.i := by cases k <;> cases ii <;> rfl
@[simp] theorem State.setIdxReg_r (s : State) (ii : Idx) (k : Reg8) (v : Byte) : (s.setIdxReg ii k v).r = s.r := by cases k <;> cases ii <;> rfl
@[simp] theorem State.setIdxReg_iff1 (s : State) (ii : Idx) (k : Reg8) (v : Byte) : (s.setIdxReg ii k v).iff1 = s.iff1 := by cases k <;> cases ii <;> rfl
@[simp] theorem State.setIdxReg_iff2 (s : State) (ii : Idx) (k : Reg8) (v : Byte) : (s.setIdxReg ii k v).iff2 = s.iff2 := by cases k <;> cases ii <;> rfl
@[simp] theorem State.setIdxReg_im (s : State) (ii : Idx) (k : Reg8) (v : Byte) : (s.setIdxReg ii k v).im = s.im := by cases k <;> cases ii <;> rfl
@[simp] theorem State.setIdxReg_halted (s : State) (ii : Idx) (k : Reg8) (v : Byte) : (s.setIdxReg ii k v).halted = s.halted := by cases k <;> cases ii <;> rfl
@[simp] theorem State.setIdxReg_intLatch (s : State) (ii : Idx) (k : Reg8) (v : Byte) : (s.setIdxReg ii k v).intLatch = s.intLatch := by cases k <;> cases ii <;> rfl
@[simp] theorem State.setIdxReg_nmiLatch (s : State) (ii : Idx) (k : Reg8) (v : Byte) : (s.setIdxReg ii k v).nmiLatch = s.nmiLatch := by cases k <;> cases ii <;> rfl
@[simp] theorem State.setIdxReg_eiDelay (s : State) (ii : Idx) (k : Reg8) (v : Byte) : (s.setIdxReg ii k v).eiDelay = s.eiDelay := by cases k <;> cases ii <;> rfl
@[simp] theorem State.setIdxReg_pendingPrefix (s : State) (ii : Idx) (k : Reg8) (v : Byte) : (s.setIdxReg ii k v).pendingPrefix = s.pendingPrefix := by cases k <;> cases ii <;> rfl
@[simp] theorem State.setIdxReg_memptr (s : State) (ii : Idx) (k : Reg8) (v : Byte) : (s.setIdxReg ii k v).memptr = s.memptr := by cases k <;> cases ii <;> rfl
@[simp] theorem State.setIdxReg_q (s : State) (ii : Idx) (k : Reg8) (v : Byte) : (s.setIdxReg ii k v).q = s.q := by cases k <;> cases ii <;> rfl
@[simp] theorem State.setIdxReg_mem (s : State) (ii : Idx) (k : Reg8) (v : Byte) : (s.setIdxReg ii k v).mem = s.mem := by cases k <;> cases ii <;> rfl
@[simp] theorem State.setIdxReg_params (s : State) (ii : Idx) (k : Reg8) (v : Byte) : (s.setIdxReg ii k v).params = s.params := by cases k <;> cases ii <;> rfl
@[simp] theorem State.setIdxReg_pollAnswers (s : State) (ii : Idx) (k : Reg8) (v : Byte) : (s.setIdxReg ii k v).pollAnswers = s.pollAnswers := by cases k <;> cases ii <;> rfl
@[simp] theorem State.setIdxReg_vectorAnswers (s : State) (ii : Idx) (k : Reg8) (v : Byte) : (s.setIdxReg ii k v).vectorAnswers = s.vectorAnswers := by cases k <;> cases ii <;> rfl
@[simp] theorem State.setIdxReg_ioAnswers (s : State) (ii : Idx) (k : Reg8) (v : Byte) : (s.setIdxReg ii k v).ioAnswers = s.ioAnswers := by cases k <;> cases ii <;> rfl
@[simp] theorem State.setIdxReg_draws (s : State) (ii : Idx) (k : Reg8) (v : Byte) : (s.setIdxReg ii k v).draws = s.draws := by cases k <;> cases ii <;> rfl
@[simp] theorem State.setIdxReg_calls (s : State) (ii : Idx) (k : Reg8) (v : Byte) : (s.setIdxReg ii k v).calls = s.calls := by cases k <;> cases ii <;> rfl
@[simp] theorem State.setIdxReg_cycles (s : State) (ii : Idx) (k : Reg8) (v : Byte) : (s.setIdxReg ii k v).cycles = s.cycles := by cases k <;> cases ii <;> rfl
@[simp] theorem State.setIdxReg_peek (s : State) (ii : Idx) (k : Reg8) (v : Byte) (y : Word) : (s.setIdxReg ii k v).peek y = s.peek y := by cases k <;> cases ii <;> rfl

@[simp] theorem State.copyTo_alt (s : State) (p : Option Reg8) (v : Byte) : (s.copyTo p v).alt = s.alt := by cases p <;> rfl
@[simp] theorem State.copyTo_ix (s : State) (p : Option Reg8) (v : Byte) : (s.copyTo p v).ix = s.ix := by cases p <;> rfl
@[simp] theorem State.copyTo_iy (s : State) (p : Option Reg8) (v : Byte) : (s.copyTo p v).iy = s.iy := by cases p <;> rfl
@[simp] theorem State.copyTo_sp (s : State) (p : Option Reg8) (v : Byte) : (s.copyTo p v).sp = s.sp := by cases p <;> rfl
@[simp] theorem State.copyTo_pc (s : State) (p : Option Reg8) (v : Byte) : (s.copyTo p v).pc = s.pc := by cases p <;> rfl
@[simp] theorem State.copyTo_i (s : State) (p : Option Reg8) (v : Byte) : (s.copyTo p v).i = s.i := by cases p <;> rfl
@[simp] theorem State.copyTo_r (s : State) (p : Option Reg8) (v : Byte) : (s.copyTo p v).r = s.r := by cases p <;> rfl
@[simp] theorem State.copyTo_iff1 (s : State) (p : Option Reg8) (v : Byte) : (s.copyTo p v).iff1 = s.iff1 := by cases p <;> rfl
@[simp] theorem State.copyTo_iff2 (s : State) (p : Option Reg8) (v : Byte) : (s.copyTo p v).iff2 = s.iff2 := by cases p <;> rfl
@[simp] theorem State.copyTo_im (s : State) (p : Option Reg8) (v : Byte) : (s.copyTo p v).im = s.im := by cases p <;> rfl
@[simp] theorem State.copyTo_halted (s : State) (p : Option Reg8) (v : Byte) : (s.copyTo p v).halted = s.halted := by cases p <;> rfl
@[simp] theorem State.copyTo_intLatch (s : State) (p : Option Reg8) (v : Byte) : (s.copyTo p v).intLatch = s.intLatch := by cases p <;> rfl
@[simp] theorem State.copyTo_nmiLatch (s : State) (p : Option Reg8) (v : Byte) : (s.copyTo p v).nmiLatch = s.nmiLatch := by cases p <;> rfl
@[simp] theorem State.copyTo_eiDelay (s : State) (p : Option Reg8) (v : Byte) : (s.copyTo p v).eiDelay = s.eiDelay := by cases p <;> rfl
@[simp] theorem State.copyTo_pendingPrefix (s : State) (p : Option Reg8) (v : Byte) : (s.copyTo p v).pendingPrefix = s.pendingPrefix := by cases p <;> rfl
@[simp] theorem State.copyTo_memptr (s : State) (p : Option Reg8) (v : Byte) : (s.copyTo p v).memptr = s.memptr := by cases p <;> rfl
@[simp] theorem State.copyTo_q (s : State) (p : Option Reg8) (v : Byte) : (s.copyTo p v).q = s.q := by cases p <;> rfl
@[simp] theorem State.copyTo_mem (s : State) (p : Option Reg8) (v : Byte) : (s.copyTo p v).mem = s.mem := by cases p <;> rfl
@[simp] theorem State.copyTo_params (s : State) (p : Option Reg8) (v : Byte) : (s.copyTo p v).params = s.params := by cases p <;> rfl
@[simp] theorem State.copyTo_pollAnswers (s : State) (p : Option Reg8) (v : Byte) : (s.copyTo p v).pollAnswers = s.pollAnswers := by cases p <;> rfl
@[simp] theorem State.copyTo_vectorAnswers (s : State) (p : Option Reg8) (v : Byte) : (s.copyTo p v).vectorAnswers = s.vectorAnswers := by cases p <;> rfl
@[simp] theorem State.copyTo_ioAnswers (s : State) (p : Option Reg8) (v : Byte) : (s.copyTo p v).ioAnswers = s.ioAnswers := by cases p <;> rfl
@[simp] theorem State.copyTo_draws (s : State) (p : Option Reg8) (v : Byte) : (s.copyTo p v).draws = s.draws := by cases p <;> rfl
@[simp] theorem State.copyTo_calls (s : State) (p : Option Reg8) (v : Byte) : (s.copyTo p v).calls = s.calls := by cases p <;> rfl
@[simp] theorem State.copyTo_cycles (s : State) (p : Option Reg8) (v : Byte) : (s.copyTo p v).cycles = s.cycles := by cases p <;> rfl
@[simp] theorem State.copyTo_peek (s : State) (p : Option Reg8) (v : Byte) (y : Word) : (s.copyTo p v).peek y = s.peek y := by cases p <;> rfl

@[simp] theorem State.clearLatch_main (s : State) (p : Cause) : (s.clearLatch p).main = s.main := by cases p <;> rfl
@[simp] theorem State.clearLatch_alt (s : State) (p : Cause) : (s.clearLatch p).alt = s.alt := by cases p <;> rfl
@[simp] theorem State.clearLatch_ix (s : State) (p : Cause) : (s.clearLatch p).ix = s.ix := by cases p <;> rfl
@[simp] theorem State.clearLatch_iy (s : State) (p : Cause) : (s.clearLatch p).iy = s.iy := by cases p <;> rfl
@[simp] theorem State.clearLatch_sp (s : State) (p : Cause) : (s.clearLatch p).sp = s.sp := by cases p <;> rfl
@[simp] theorem State.clearLatch_pc (s : State) (p : Cause) : (s.clearLatch p).pc = s.pc := by cases p <;> rfl
@[simp] theorem State.clearLatch_i (s : State) (p : Cause) : (s.clearLatch p).i = s.i := by cases p <;> rfl
@[simp] theorem State.clearLatch_r (s : State) (p : Cause) : (s.clearLatch p).r = s.r := by cases p <;> rfl
@[simp] theorem State.clearLatch_iff1 (s : State) (p : Cause) : (s.clearLatch p).iff1 = s.iff1 := by cases p <;> rfl
@[simp] theorem State.clearLatch_iff2 (s : State) (p : Cause) : (s.clearLatch p).iff2 = s.iff2 := by cases p <;> rfl
@[simp] theorem State.clearLatch_im (s : State) (p : Cause) : (s.clearLatch p).im = s.im := by cases p <;> rfl
@[simp] theorem State.clearLatch_halted (s : State) (p : Cause) : (s.clearLatch p).halted = s.halted := by cases p <;> rfl
@[simp] theorem State.clearLatch_eiDelay (s : State) (p : Cause) : (s.clearLatch p).eiDelay = s.eiDelay := by cases p <;> rfl
@[simp] theorem State.clearLatch_pendingPrefix (s : State) (p : Cause) : (s.clearLatch p).pendingPrefix = s.pendingPrefix := by cases p <;> rfl
@[simp] theorem State.clearLatch_memptr (s : State) (p : Cause) : (s.clearLatch p).memptr = s.memptr := by cases p <;> rfl
@[simp] theorem State.clearLatch_q (s : State) (p : Cause) : (s.clearLatch p).q = s.q := by cases p <;> rfl
@[simp] theorem State.clearLatch_mem (s : State) (p : Cause) : (s.clearLatch p).mem = s.mem := by cases p <;> rfl
@[simp] theorem State.clearLatch_params (s : State) (p : Cause) : (s.clearLatch p).params = s.params := by cases p <;> rfl
@[simp] theorem State.clearLatch_pollAnswers (s : State) (p : Cause) : (s.clearLatch p).pollAnswers = s.pollAnswers := by cases p <;> rfl
@[simp] theorem State.clearLatch_vectorAnswers (s : State) (p : Cause) : (s.clearLatch p).vectorAnswers = s.vectorAnswers := by cases p <;> rfl
@[simp] theorem State.clearLatch_ioAnswers (s : State) (p : Cause) : (s.clearLatch p).ioAnswers = s.ioAnswers := by cases p <;> rfl
@[simp] theorem State.clearLatch_draws (s : State) (p : Cause) : (s.clearLatch p).draws = s.draws := by cases p <;> rfl
@[simp] theorem State.clearLatch_calls (s : State) (p : Cause) : (s.clearLatch p).calls = s.calls := by cases p <;> rfl
@[simp] theorem State.clearLatch_cycles (s : State) (p : Cause) : (s.clearLatch p).cycles = s.cycles := by cases p <;> rfl
@[simp] theorem State.clearLatch_peek (s : State) (p : Cause) (y : Word) : (s.clearLatch p).peek y = s.peek y := by cases p <;> rfl

@[simp] theorem State.maskInterrupts_main (s : State) (p : Cause) : (s.maskInterrupts p).main = s.main := by cases p <;> rfl
@[simp] theorem State.maskInterrupts_alt (s : State) (p : Cause) : (s.maskInterrupts p).alt = s.alt := by cases p <;> rfl
@[simp] theorem State.maskInterrupts_ix (s : State) (p : Cause) : (s.maskInterrupts p).ix = s.ix := by cases p <;> rfl
@[simp] theorem State.maskInterrupts_iy (s : State) (p : Cause) : (s.maskInterrupts p).iy = s.iy := by cases p <;> rfl
@[simp] theorem State.maskInterrupts_sp (s : State) (p : Cause) : (s.maskInterrupts p).sp = s.sp := by cases p <;> rfl
@[simp] theorem State.maskInterrupts_pc (s : State) (p : Cause) : (s.maskInterrupts p).pc = s.pc := by cases p <;> rfl
@[simp] theorem State.maskInterrupts_i (s : State) (p : Cause) : (s.maskInterrupts p).i = s.i := by cases p <;> rfl
@[simp] theorem State.maskInterrupts_r (s : State) (p : Cause) : (s.maskInterrupts p).r = s.r := by cases p <;> rfl
@[simp] theorem State.maskInterrupts_im (s : State) (p : Cause) : (s.maskInterrupts p).im = s.im := by cases p <;> rfl
@[simp] theorem State.maskInterrupts_halted (s : State) (p : Cause) : (s.maskInterrupts p).halted = s.halted := by cases p <;> rfl
@[simp] theorem State.maskInterrupts_intLatch (s : State) (p : Cause) : (s.maskInterrupts p).intLatch = s.intLatch := by cases p <;> rfl
@[simp] theorem State.maskInterrupts_nmiLatch (s : State) (p : Cause) : (s.maskInterrupts p).nmiLatch = s.nmiLatch := by cases p <;> rfl
@[simp] theorem State.maskInterrupts_eiDelay (s : State) (p : Cause) : (s.maskInterrupts p).eiDelay = s.eiDelay := by cases p <;> rfl
@[simp] theorem State.maskInterrupts_pendingPrefix (s : State) (p : Cause) : (s.maskInterrupts p).pendingPrefix = s.pendingPrefix := by cases p <;> rfl
@[simp] theorem State.maskInterrupts_memptr (s : State) (p : Cause) : (s.maskInterrupts p).memptr = s.memptr := by cases p <;> rfl
@[simp] theorem State.maskInterrupts_q (s : State) (p : Cause) : (s.maskInterrupts p).q = s.q := by cases p <;> rfl
@[simp] theorem State.maskInterrupts_mem (s : State) (p : Cause) : (s.maskInterrupts p).mem = s.mem := by cases p <;> rfl
@[simp] theorem State.maskInterrupts_params (s : State) (p : Cause) : (s.maskInterrupts p).params = s.params := by cases p <;> rfl
@[simp] theorem State.maskInterrupts_pollAnswers (s : State) (p : Cause) : (s.maskInterrupts p).pollAnswers = s.pollAnswers := by cases p <;> rfl
@[simp] theorem State.maskInterrupts_vectorAnswers (s : State) (p : Cause) : (s.maskInterrupts p).vectorAnswers = s.vectorAnswers := by cases p <;> rfl
@[simp] theorem State.maskInterrupts_ioAnswers (s : State) (p : Cause) : (s.maskInterrupts p).ioAnswers = s.ioAnswers := by cases p <;> rfl
@[simp] theorem State.maskInterrupts_draws (s : State) (p : Cause) : (s.maskInterrupts p).draws = s.draws := by cases p <;> rfl
@[simp] theorem State.maskInterrupts_calls (s : State) (p : Cause) : (s.maskInterrupts p).calls = s.calls := by cases p <;> rfl
@[simp] theorem State.maskInterrupts_cycles (s : State) (p : Cause) : (s.maskInterrupts p).cycles = s.cycles := by cases p <;> rfl
@[simp] theorem State.maskInterrupts_peek (s : State) (p : Cause) (y : Word) : (s.maskInterrupts p).peek y = s.peek y := by cases p <;> rfl

@[simp] theorem State.setIdx_idx (s : State) (ii : Idx) (v : Word) : (s.setIdx ii v).idx ii = v := by cases ii <;> rfl

theorem State.setIdx_idx_other (s : State) {ii jj : Idx} (v : Word) (h : jj ≠ ii) : (s.setIdx ii v).idx jj = s.idx jj := by
  cases ii <;> cases jj <;> first | rfl | exact absurd rfl h

theorem Bank.get_set (k : Bank) (r r' : Reg8) (v : Byte) : (k.set r v).get r' = if r' = r then v else k.get r' := by
  cases r <;> cases r' <;> rfl

@[simp] theorem Bank.set_f (k : Bank) (r : Reg8) (v : Byte) : (k.set r v).f = k.f := by cases r <;> rfl

/-- A byte just written reads back. -/
@[simp] theorem State.writeMem_peek_same (s : State) (a : Word) (v : Byte) : (s.writeMem a v).peek a = v :=
  Memory.read_write_same s.mem a.toNat v

/-- Every other byte is as before. -/
theorem State.writeMem_peek_other (s : State) {a x : Word} (v : Byte) (h : x ≠ a) : (s.writeMem a v).peek x = s.peek x :=
  Memory.read_write_other s.mem v fun e => h (BitVec.eq_of_toNat_eq e)

/-- A write keeps memory's form. -/
theorem State.writeMem_wf {s : State} (a : Word) (v : Byte) (h : Memory.wf s.mem = true) :
    Memory.wf (s.writeMem a v).mem = true :=
  Memory.wf_write v a.isLt h

end Sys2Proof.Machine
end

