-- ==== Sys2Proof/Laws/Ops.lean ====
section
/-! SUPPORT. Everything each shared operation can do, said once: the pairs, word reads and writes, the stack, the ports, and
taking an interrupt and returning from one. -/

namespace Sys2Proof.Machine

/-! The pairs (R21): packing and splitting are exact. -/

theorem pack_getLsbD (h l : Byte) (i : Nat) :
    (pack h l).getLsbD i = if i < 8 then l.getLsbD i else h.getLsbD (i - 8) :=
  BitVec.getLsbD_append

@[simp] theorem hiByte_pack (h l : Byte) : hiByte (pack h l) = h := by
  apply BitVec.eq_of_getLsbD_eq
  intro i hi
  simp [hiByte, pack_getLsbD, hi]

@[simp] theorem loByte_pack (h l : Byte) : loByte (pack h l) = l := by
  apply BitVec.eq_of_getLsbD_eq
  intro i hi
  simp [loByte, pack_getLsbD, hi]

@[simp] theorem pack_hiByte_loByte (w : Word) : pack (hiByte w) (loByte w) = w := by
  apply BitVec.eq_of_getLsbD_eq
  intro i hi
  by_cases h : i < 8
  · simp [hiByte, loByte, pack_getLsbD, h]
  · simp [hiByte, loByte, pack_getLsbD, h, show i - 8 < 8 by omega, show 8 + (i - 8) = i by omega]

theorem pack_inj {h l h' l' : Byte} (e : pack h l = pack h' l') : h = h' ∧ l = l' :=
  ⟨by simpa using congrArg hiByte e, by simpa using congrArg loByte e⟩

/-! Addresses next to each other are different ones. -/

theorem word_ne_succ (a : Word) : a ≠ a + 1#16 := by bv_omega

theorem word_pred_ne (a : Word) : a - 1#16 ≠ a - 2#16 := by bv_omega

/-! Reads hand on the byte and log the call. -/

theorem State.readMem_eq (s : State) (a : Word) (k : Byte → State → State) :
    s.readMem a k = k (s.peek a) (s.log (.readMem a (s.peek a))) := rfl

theorem State.readMem16_eq (s : State) (a : Word) (k : Word → State → State) :
    s.readMem16 a k = k (pack (s.peek (a + 1#16)) (s.peek a))
      ((s.log (.readMem a (s.peek a))).log (.readMem (a + 1#16) (s.peek (a + 1#16)))) := rfl

theorem State.readIo_eq (s : State) (p : Word) (k : Byte → State → State) :
    s.readIo p k = k s.ioAnswer (s.nextIo.log (.readIo (loByte p) s.ioAnswer)) := rfl

/-- Pop16 reads the two bytes at SP and moves SP past them (R15). -/
theorem State.pop16_eq (s : State) (k : Word → State → State) :
    s.pop16 k = k (pack (s.peek (s.sp + 1#16)) (s.peek s.sp))
      { s with sp := s.sp + 1#16 + 1#16,
               calls := s.calls ++ [.readMem s.sp (s.peek s.sp)] ++
                 [.readMem (s.sp + 1#16) (s.peek (s.sp + 1#16))] } := rfl

/-! A 16-bit write, and Push16, store two bytes and leave every other byte alone. -/

theorem State.writeMem16_peek_lo (s : State) (a w : Word) : (s.writeMem16 a w).peek a = loByte w := by
  rw [State.writeMem16, State.writeMem_peek_other _ _ (word_ne_succ a), State.writeMem_peek_same]

theorem State.writeMem16_peek_hi (s : State) (a w : Word) : (s.writeMem16 a w).peek (a + 1#16) = hiByte w :=
  State.writeMem_peek_same _ _ _

theorem State.writeMem16_peek_other (s : State) {a x : Word} (w : Word) (h : x ≠ a) (h' : x ≠ a + 1#16) :
    (s.writeMem16 a w).peek x = s.peek x := by
  rw [State.writeMem16, State.writeMem_peek_other _ _ h', State.writeMem_peek_other _ _ h]

theorem State.push16_peek_hi (s : State) (w : Word) : (s.push16 w).peek (s.sp - 1#16) = hiByte w := by
  rw [State.push16, State.writeMem_peek_other _ _ (word_pred_ne s.sp), State.setSp_peek, State.writeMem_peek_same]

theorem State.push16_peek_lo (s : State) (w : Word) : (s.push16 w).peek (s.sp - 2#16) = loByte w :=
  State.writeMem_peek_same _ _ _

theorem State.push16_peek_other (s : State) {x : Word} (w : Word) (h : x ≠ s.sp - 1#16) (h' : x ≠ s.sp - 2#16) :
    (s.push16 w).peek x = s.peek x := by
  rw [State.push16, State.writeMem_peek_other _ _ h', State.setSp_peek, State.writeMem_peek_other _ _ h, State.setSp_peek]

theorem State.push16_wf {s : State} (w : Word) (h : Memory.wf s.mem = true) : Memory.wf (s.push16 w).mem = true :=
  State.writeMem_wf _ _ (State.writeMem_wf _ _ h)

theorem State.writeMem16_wf {s : State} (a w : Word) (h : Memory.wf s.mem = true) :
    Memory.wf (s.writeMem16 a w).mem = true :=
  State.writeMem_wf _ _ (State.writeMem_wf _ _ h)

/-- What was pushed is popped (R15). -/
theorem State.pop16_push16 (s : State) (w : Word) :
    pack ((s.push16 w).peek ((s.push16 w).sp + 1#16)) ((s.push16 w).peek (s.push16 w).sp) = w := by
  have h : (s.push16 w).sp + 1#16 = s.sp - 1#16 := by simp only [State.push16_sp]; bv_omega
  rw [h, State.push16_peek_hi, State.push16_sp, State.push16_peek_lo, pack_hiByte_loByte]

/-! Taking an interrupt. -/

/-- The state from which the handler's address is found: latch and halt cleared, R counted, the flip-flops changed and
PC pushed (R310, R316). -/
def State.acknowledged (s : State) (c : Cause) : State :=
  (((s.clearLatch c).wake.bumpR 1).maskInterrupts c).push16 s.pc

@[simp] theorem State.acknowledged_main (s : State) (c : Cause) : (s.acknowledged c).main = s.main := by
  simp [State.acknowledged]

@[simp] theorem State.acknowledged_alt (s : State) (c : Cause) : (s.acknowledged c).alt = s.alt := by
  simp [State.acknowledged]

@[simp] theorem State.acknowledged_ix (s : State) (c : Cause) : (s.acknowledged c).ix = s.ix := by
  simp [State.acknowledged]

@[simp] theorem State.acknowledged_iy (s : State) (c : Cause) : (s.acknowledged c).iy = s.iy := by
  simp [State.acknowledged]

@[simp] theorem State.acknowledged_pc (s : State) (c : Cause) : (s.acknowledged c).pc = s.pc := by
  simp [State.acknowledged]

@[simp] theorem State.acknowledged_i (s : State) (c : Cause) : (s.acknowledged c).i = s.i := by
  simp [State.acknowledged]

@[simp] theorem State.acknowledged_im (s : State) (c : Cause) : (s.acknowledged c).im = s.im := by
  simp [State.acknowledged]

@[simp] theorem State.acknowledged_halted (s : State) (c : Cause) : (s.acknowledged c).halted = false := by
  simp [State.acknowledged]

@[simp] theorem State.acknowledged_eiDelay (s : State) (c : Cause) : (s.acknowledged c).eiDelay = s.eiDelay := by
  simp [State.acknowledged]

@[simp] theorem State.acknowledged_pendingPrefix (s : State) (c : Cause) : (s.acknowledged c).pendingPrefix = s.pendingPrefix := by
  simp [State.acknowledged]

@[simp] theorem State.acknowledged_memptr (s : State) (c : Cause) : (s.acknowledged c).memptr = s.memptr := by
  simp [State.acknowledged]

@[simp] theorem State.acknowledged_q (s : State) (c : Cause) : (s.acknowledged c).q = s.q := by
  simp [State.acknowledged]

@[simp] theorem State.acknowledged_params (s : State) (c : Cause) : (s.acknowledged c).params = s.params := by
  simp [State.acknowledged]

@[simp] theorem State.acknowledged_pollAnswers (s : State) (c : Cause) : (s.acknowledged c).pollAnswers = s.pollAnswers := by
  simp [State.acknowledged]

@[simp] theorem State.acknowledged_vectorAnswers (s : State) (c : Cause) : (s.acknowledged c).vectorAnswers = s.vectorAnswers := by
  simp [State.acknowledged]

@[simp] theorem State.acknowledged_ioAnswers (s : State) (c : Cause) : (s.acknowledged c).ioAnswers = s.ioAnswers := by
  simp [State.acknowledged]

@[simp] theorem State.acknowledged_draws (s : State) (c : Cause) : (s.acknowledged c).draws = s.draws := by
  simp [State.acknowledged]

@[simp] theorem State.acknowledged_cycles (s : State) (c : Cause) : (s.acknowledged c).cycles = s.cycles := by
  simp [State.acknowledged]

@[simp] theorem State.acknowledged_sp (s : State) (c : Cause) : (s.acknowledged c).sp = s.sp - 2#16 := by
  simp [State.acknowledged]

@[simp] theorem State.acknowledged_r (s : State) (c : Cause) : (s.acknowledged c).r = bumpRefresh 1 s.r := by
  simp [State.acknowledged]

@[simp] theorem State.acknowledged_calls (s : State) (c : Cause) : (s.acknowledged c).calls =
    s.calls ++ [.writeMem (s.sp - 1#16) (hiByte s.pc)] ++ [.writeMem (s.sp - 2#16) (loByte s.pc)] := by
  simp [State.acknowledged]

theorem State.acknowledged_peek_hi (s : State) (c : Cause) : (s.acknowledged c).peek (s.sp - 1#16) = hiByte s.pc := by
  simpa [State.acknowledged] using State.push16_peek_hi (((s.clearLatch c).wake.bumpR 1).maskInterrupts c) s.pc

theorem State.acknowledged_peek_lo (s : State) (c : Cause) : (s.acknowledged c).peek (s.sp - 2#16) = loByte s.pc := by
  simpa [State.acknowledged] using State.push16_peek_lo (((s.clearLatch c).wake.bumpR 1).maskInterrupts c) s.pc

theorem State.acknowledged_peek_other (s : State) (c : Cause) {x : Word} (h : x ≠ s.sp - 1#16)
    (h' : x ≠ s.sp - 2#16) : (s.acknowledged c).peek x = s.peek x := by
  rw [State.acknowledged, State.push16_peek_other _ _ (by simpa using h) (by simpa using h')]
  simp

theorem State.acknowledged_wf {s : State} (c : Cause) (h : Memory.wf s.mem = true) :
    Memory.wf (s.acknowledged c).mem = true :=
  State.push16_wf _ (by simpa using h)

theorem takeInterrupt_eq (c : Cause) (s : State) :
    takeInterrupt c s = (s.acknowledged c).handler c fun w t => (t.jump w).took c.cycles := by
  rw [takeInterrupt, State.acknowledged]

theorem takeInterrupt_nmi (s : State) :
    takeInterrupt .nmi s = ((s.acknowledged .nmi).jump 0x0066#16).took 11 := by
  rw [takeInterrupt_eq, State.handler, Cause.cycles]

theorem takeInterrupt_int0 (s : State) :
    takeInterrupt .int0 s = ((s.acknowledged .int0).jump s.params.im0Vector).took 13 := by
  simp only [takeInterrupt_eq, State.handler, Cause.cycles, State.acknowledged_params]

theorem takeInterrupt_int1 (s : State) :
    takeInterrupt .int1 s = ((s.acknowledged .int1).jump 0x0038#16).took 13 := by
  rw [takeInterrupt_eq, State.handler, Cause.cycles]

/-- RETI and RETN: PC and MEMPTR take the popped word, IFF1 takes IFF2 (R241, R242). -/
theorem returnFromInterrupt_eq (s : State) :
    returnFromInterrupt s =
      { s with pc := pack (s.peek (s.sp + 1#16)) (s.peek s.sp), memptr := pack (s.peek (s.sp + 1#16)) (s.peek s.sp),
               sp := s.sp + 1#16 + 1#16, iff1 := s.iff2,
               calls := s.calls ++ [.readMem s.sp (s.peek s.sp)] ++
                 [.readMem (s.sp + 1#16) (s.peek (s.sp + 1#16))],
               cycles := 14 } := by
  simp only [returnFromInterrupt, State.pop16, State.readMem, State.setSp, State.log, State.jump, State.setPc,
    State.setMemptr, State.took, State.peek]

end Sys2Proof.Machine
end

