-- ==== Sys2Proof/Laws/PerInstr.lean ====
section
/-! SUPPORT. The family Length: every instruction has the length its format gives it (R70, R92). -/

namespace Sys2Proof.Laws.Length

/-! The operand bytes of a format: one for n, e or d, two for nn (R74, R75, R81). -/

def baseOperands (o : BaseOp) : Nat :=
  match o with
  | .nop => 0
  | .exAfAf => 0
  | .djnz _ => 1
  | .jr _ => 1
  | .jrCc _ _ => 1
  | .ldPairN _ _ => 2
  | .addHl _ => 0
  | .stA _ => 0
  | .ldA _ => 0
  | .stHl _ => 2
  | .ldHl _ => 2
  | .stAAbs _ => 2
  | .ldAAbs _ => 2
  | .incPair _ => 0
  | .decPair _ => 0
  | .incReg _ => 0
  | .incMem => 0
  | .decReg _ => 0
  | .decMem => 0
  | .ldRegN _ _ => 1
  | .ldMemN _ => 1
  | .rlca => 0
  | .rrca => 0
  | .rla => 0
  | .rra => 0
  | .daa => 0
  | .cpl => 0
  | .scf => 0
  | .ccf => 0
  | .halt => 0
  | .ldRegReg _ _ => 0
  | .ldRegMem _ => 0
  | .ldMemReg _ => 0
  | .aluReg _ _ => 0
  | .aluMem _ => 0
  | .aluN _ _ => 1
  | .retCc _ => 0
  | .pop _ => 0
  | .push _ => 0
  | .ret => 0
  | .exx => 0
  | .jpHl => 0
  | .ldSpHl => 0
  | .jpCc _ _ => 2
  | .jp _ => 2
  | .outNA _ => 1
  | .inAN _ => 1
  | .exSpHl => 0
  | .exDeHl => 0
  | .di => 0
  | .ei => 0
  | .callCc _ _ => 2
  | .call _ => 2
  | .rst _ => 0

def edOperands (o : EdOp) : Nat :=
  match o with
  | .inReg _ => 0
  | .inF => 0
  | .outReg _ => 0
  | .outZero => 0
  | .sbcHl _ => 0
  | .adcHl _ => 0
  | .stPair _ _ => 2
  | .ldPair _ _ => 2
  | .neg _ => 0
  | .retn _ => 0
  | .reti => 0
  | .im _ _ => 0
  | .ldIA => 0
  | .ldRA => 0
  | .ldAI => 0
  | .ldAR => 0
  | .rrd => 0
  | .rld => 0
  | .blockLd _ _ => 0
  | .blockCp _ _ => 0
  | .blockIn _ _ => 0
  | .blockOut _ _ => 0
  | .nopStar _ => 0

def idxOperands (o : IdxOp) : Nat :=
  match o with
  | .add _ => 0
  | .ldN _ => 2
  | .st _ => 2
  | .ld _ => 2
  | .inc => 0
  | .dec => 0
  | .incHalf _ => 0
  | .decHalf _ => 0
  | .ldHalfN _ _ => 1
  | .incMem _ => 1
  | .decMem _ => 1
  | .ldMemN _ _ => 2
  | .ldRegReg _ _ => 0
  | .ldRegMem _ _ => 1
  | .ldMemReg _ _ => 1
  | .aluHalf _ _ => 0
  | .aluMem _ _ => 1
  | .pop => 0
  | .push => 0
  | .exSp => 0
  | .jp => 0
  | .ldSp => 0

/-- The length R70's table gives the format of an operation. A redundant prefix's two bytes count as one format here,
the second of them belonging to the next step (R88). -/
def formatLength (o : Op) : Nat :=
  match o with
  | .base o => 1 + baseOperands o
  | .cb _ => 2
  | .ed o => 2 + edOperands o
  | .idx _ o => 2 + idxOperands o
  | .idxCb _ _ _ => 4
  | .ignored _ o => 2 + baseOperands o
  | .ignoredEd _ o => 3 + edOperands o
  | .redundant _ _ => 2

/-- An instruction's bytes are as many as its format has. -/
def Statement (i : Instr) : Prop := (encode i).length = formatLength i.op

theorem nop : Statement .nop := rfl
theorem ldBcNn (nn : Word) : Statement (.ldBcNn nn) := rfl
theorem ldAtBcA : Statement .ldAtBcA := rfl
theorem incBc : Statement .incBc := rfl
theorem incB : Statement .incB := rfl
theorem decB : Statement .decB := rfl
theorem ldBN (n : Byte) : Statement (.ldBN n) := rfl
theorem rlca : Statement .rlca := rfl
theorem exAfAf : Statement .exAfAf := rfl
theorem addHlBc : Statement .addHlBc := rfl
theorem ldAAtBc : Statement .ldAAtBc := rfl
theorem decBc : Statement .decBc := rfl
theorem incC : Statement .incC := rfl
theorem decC : Statement .decC := rfl
theorem ldCN (n : Byte) : Statement (.ldCN n) := rfl
theorem rrca : Statement .rrca := rfl
theorem djnzE (e : Byte) : Statement (.djnzE e) := rfl
theorem ldDeNn (nn : Word) : Statement (.ldDeNn nn) := rfl
theorem ldAtDeA : Statement .ldAtDeA := rfl
theorem incDe : Statement .incDe := rfl
theorem incD : Statement .incD := rfl
theorem decD : Statement .decD := rfl
theorem ldDN (n : Byte) : Statement (.ldDN n) := rfl
theorem rla : Statement .rla := rfl
theorem jrE (e : Byte) : Statement (.jrE e) := rfl
theorem addHlDe : Statement .addHlDe := rfl
theorem ldAAtDe : Statement .ldAAtDe := rfl
theorem decDe : Statement .decDe := rfl
theorem incE : Statement .incE := rfl
theorem decE : Statement .decE := rfl
theorem ldEN (n : Byte) : Statement (.ldEN n) := rfl
theorem rra : Statement .rra := rfl
theorem jrNzE (e : Byte) : Statement (.jrNzE e) := rfl
theorem ldHlNn (nn : Word) : Statement (.ldHlNn nn) := rfl
theorem ldAtNnHl (nn : Word) : Statement (.ldAtNnHl nn) := rfl
theorem incHl : Statement .incHl := rfl
theorem incH : Statement .incH := rfl
theorem decH : Statement .decH := rfl
theorem ldHN (n : Byte) : Statement (.ldHN n) := rfl
theorem daa : Statement .daa := rfl
theorem jrZE (e : Byte) : Statement (.jrZE e) := rfl
theorem addHlHl : Statement .addHlHl := rfl
theorem ldHlAtNn (nn : Word) : Statement (.ldHlAtNn nn) := rfl
theorem decHl : Statement .decHl := rfl
theorem incL : Statement .incL := rfl
theorem decL : Statement .decL := rfl
theorem ldLN (n : Byte) : Statement (.ldLN n) := rfl
theorem cpl : Statement .cpl := rfl
theorem jrNcE (e : Byte) : Statement (.jrNcE e) := rfl
theorem ldSpNn (nn : Word) : Statement (.ldSpNn nn) := rfl
theorem ldAtNnA (nn : Word) : Statement (.ldAtNnA nn) := rfl
theorem incSp : Statement .incSp := rfl
theorem incAtHl : Statement .incAtHl := rfl
theorem decAtHl : Statement .decAtHl := rfl
theorem ldAtHlN (n : Byte) : Statement (.ldAtHlN n) := rfl
theorem scf : Statement .scf := rfl
theorem jrCE (e : Byte) : Statement (.jrCE e) := rfl
theorem addHlSp : Statement .addHlSp := rfl
theorem ldAAtNn (nn : Word) : Statement (.ldAAtNn nn) := rfl
theorem decSp : Statement .decSp := rfl
theorem incA : Statement .incA := rfl
theorem decA : Statement .decA := rfl
theorem ldAN (n : Byte) : Statement (.ldAN n) := rfl
theorem ccf : Statement .ccf := rfl
theorem ldBB : Statement .ldBB := rfl
theorem ldBC : Statement .ldBC := rfl
theorem ldBD : Statement .ldBD := rfl
theorem ldBE : Statement .ldBE := rfl
theorem ldBH : Statement .ldBH := rfl
theorem ldBL : Statement .ldBL := rfl
theorem ldBAtHl : Statement .ldBAtHl := rfl
theorem ldBA : Statement .ldBA := rfl
theorem ldCB : Statement .ldCB := rfl
theorem ldCC : Statement .ldCC := rfl
theorem ldCD : Statement .ldCD := rfl
theorem ldCE : Statement .ldCE := rfl
theorem ldCH : Statement .ldCH := rfl
theorem ldCL : Statement .ldCL := rfl
theorem ldCAtHl : Statement .ldCAtHl := rfl
theorem ldCA : Statement .ldCA := rfl
theorem ldDB : Statement .ldDB := rfl
theorem ldDC : Statement .ldDC := rfl
theorem ldDD : Statement .ldDD := rfl
theorem ldDE : Statement .ldDE := rfl
theorem ldDH : Statement .ldDH := rfl
theorem ldDL : Statement .ldDL := rfl
theorem ldDAtHl : Statement .ldDAtHl := rfl
theorem ldDA : Statement .ldDA := rfl
theorem ldEB : Statement .ldEB := rfl
theorem ldEC : Statement .ldEC := rfl
theorem ldED : Statement .ldED := rfl
theorem ldEE : Statement .ldEE := rfl
theorem ldEH : Statement .ldEH := rfl
theorem ldEL : Statement .ldEL := rfl
theorem ldEAtHl : Statement .ldEAtHl := rfl
theorem ldEA : Statement .ldEA := rfl
theorem ldHB : Statement .ldHB := rfl
theorem ldHC : Statement .ldHC := rfl
theorem ldHD : Statement .ldHD := rfl
theorem ldHE : Statement .ldHE := rfl
theorem ldHH : Statement .ldHH := rfl
theorem ldHL : Statement .ldHL := rfl
theorem ldHAtHl : Statement .ldHAtHl := rfl
theorem ldHA : Statement .ldHA := rfl
theorem ldLB : Statement .ldLB := rfl
theorem ldLC : Statement .ldLC := rfl
theorem ldLD : Statement .ldLD := rfl
theorem ldLE : Statement .ldLE := rfl
theorem ldLH : Statement .ldLH := rfl
theorem ldLL : Statement .ldLL := rfl
theorem ldLAtHl : Statement .ldLAtHl := rfl
theorem ldLA : Statement .ldLA := rfl
theorem ldAtHlB : Statement .ldAtHlB := rfl
theorem ldAtHlC : Statement .ldAtHlC := rfl
theorem ldAtHlD : Statement .ldAtHlD := rfl
theorem ldAtHlE : Statement .ldAtHlE := rfl
theorem ldAtHlH : Statement .ldAtHlH := rfl
theorem ldAtHlL : Statement .ldAtHlL := rfl
theorem halt : Statement .halt := rfl
theorem ldAtHlA : Statement .ldAtHlA := rfl
theorem ldAB : Statement .ldAB := rfl
theorem ldAC : Statement .ldAC := rfl
theorem ldAD : Statement .ldAD := rfl
theorem ldAE : Statement .ldAE := rfl
theorem ldAH : Statement .ldAH := rfl
theorem ldAL : Statement .ldAL := rfl
theorem ldAAtHl : Statement .ldAAtHl := rfl
theorem ldAA : Statement .ldAA := rfl
theorem addAB : Statement .addAB := rfl
theorem addAC : Statement .addAC := rfl
theorem addAD : Statement .addAD := rfl
theorem addAE : Statement .addAE := rfl
theorem addAH : Statement .addAH := rfl
theorem addAL : Statement .addAL := rfl
theorem addAAtHl : Statement .addAAtHl := rfl
theorem addAA : Statement .addAA := rfl
theorem adcAB : Statement .adcAB := rfl
theorem adcAC : Statement .adcAC := rfl
theorem adcAD : Statement .adcAD := rfl
theorem adcAE : Statement .adcAE := rfl
theorem adcAH : Statement .adcAH := rfl
theorem adcAL : Statement .adcAL := rfl
theorem adcAAtHl : Statement .adcAAtHl := rfl
theorem adcAA : Statement .adcAA := rfl
theorem subB : Statement .subB := rfl
theorem subC : Statement .subC := rfl
theorem subD : Statement .subD := rfl
theorem subE : Statement .subE := rfl
theorem subH : Statement .subH := rfl
theorem subL : Statement .subL := rfl
theorem subAtHl : Statement .subAtHl := rfl
theorem subA : Statement .subA := rfl
theorem sbcAB : Statement .sbcAB := rfl
theorem sbcAC : Statement .sbcAC := rfl
theorem sbcAD : Statement .sbcAD := rfl
theorem sbcAE : Statement .sbcAE := rfl
theorem sbcAH : Statement .sbcAH := rfl
theorem sbcAL : Statement .sbcAL := rfl
theorem sbcAAtHl : Statement .sbcAAtHl := rfl
theorem sbcAA : Statement .sbcAA := rfl
theorem andB : Statement .andB := rfl
theorem andC : Statement .andC := rfl
theorem andD : Statement .andD := rfl
theorem andE : Statement .andE := rfl
theorem andH : Statement .andH := rfl
theorem andL : Statement .andL := rfl
theorem andAtHl : Statement .andAtHl := rfl
theorem andA : Statement .andA := rfl
theorem xorB : Statement .xorB := rfl
theorem xorC : Statement .xorC := rfl
theorem xorD : Statement .xorD := rfl
theorem xorE : Statement .xorE := rfl
theorem xorH : Statement .xorH := rfl
theorem xorL : Statement .xorL := rfl
theorem xorAtHl : Statement .xorAtHl := rfl
theorem xorA : Statement .xorA := rfl
theorem orB : Statement .orB := rfl
theorem orC : Statement .orC := rfl
theorem orD : Statement .orD := rfl
theorem orE : Statement .orE := rfl
theorem orH : Statement .orH := rfl
theorem orL : Statement .orL := rfl
theorem orAtHl : Statement .orAtHl := rfl
theorem orA : Statement .orA := rfl
theorem cpB : Statement .cpB := rfl
theorem cpC : Statement .cpC := rfl
theorem cpD : Statement .cpD := rfl
theorem cpE : Statement .cpE := rfl
theorem cpH : Statement .cpH := rfl
theorem cpL : Statement .cpL := rfl
theorem cpAtHl : Statement .cpAtHl := rfl
theorem cpA : Statement .cpA := rfl
theorem retNz : Statement .retNz := rfl
theorem popBc : Statement .popBc := rfl
theorem jpNzNn (nn : Word) : Statement (.jpNzNn nn) := rfl
theorem jpNn (nn : Word) : Statement (.jpNn nn) := rfl
theorem callNzNn (nn : Word) : Statement (.callNzNn nn) := rfl
theorem pushBc : Statement .pushBc := rfl
theorem addAN (n : Byte) : Statement (.addAN n) := rfl
theorem rst00 : Statement .rst00 := rfl
theorem retZ : Statement .retZ := rfl
theorem ret : Statement .ret := rfl
theorem jpZNn (nn : Word) : Statement (.jpZNn nn) := rfl
theorem callZNn (nn : Word) : Statement (.callZNn nn) := rfl
theorem callNn (nn : Word) : Statement (.callNn nn) := rfl
theorem adcAN (n : Byte) : Statement (.adcAN n) := rfl
theorem rst08 : Statement .rst08 := rfl
theorem retNc : Statement .retNc := rfl
theorem popDe : Statement .popDe := rfl
theorem jpNcNn (nn : Word) : Statement (.jpNcNn nn) := rfl
theorem outAtNA (n : Byte) : Statement (.outAtNA n) := rfl
theorem callNcNn (nn : Word) : Statement (.callNcNn nn) := rfl
theorem pushDe : Statement .pushDe := rfl
theorem subN (n : Byte) : Statement (.subN n) := rfl
theorem rst10 : Statement .rst10 := rfl
theorem retC : Statement .retC := rfl
theorem exx : Statement .exx := rfl
theorem jpCNn (nn : Word) : Statement (.jpCNn nn) := rfl
theorem inAAtN (n : Byte) : Statement (.inAAtN n) := rfl
theorem callCNn (nn : Word) : Statement (.callCNn nn) := rfl
theorem sbcAN (n : Byte) : Statement (.sbcAN n) := rfl
theorem rst18 : Statement .rst18 := rfl
theorem retPo : Statement .retPo := rfl
theorem popHl : Statement .popHl := rfl
theorem jpPoNn (nn : Word) : Statement (.jpPoNn nn) := rfl
theorem exAtSpHl : Statement .exAtSpHl := rfl
theorem callPoNn (nn : Word) : Statement (.callPoNn nn) := rfl
theorem pushHl : Statement .pushHl := rfl
theorem andN (n : Byte) : Statement (.andN n) := rfl
theorem rst20 : Statement .rst20 := rfl
theorem retPe : Statement .retPe := rfl
theorem jpAtHl : Statement .jpAtHl := rfl
theorem jpPeNn (nn : Word) : Statement (.jpPeNn nn) := rfl
theorem exDeHl : Statement .exDeHl := rfl
theorem callPeNn (nn : Word) : Statement (.callPeNn nn) := rfl
theorem xorN (n : Byte) : Statement (.xorN n) := rfl
theorem rst28 : Statement .rst28 := rfl
theorem retP : Statement .retP := rfl
theorem popAf : Statement .popAf := rfl
theorem jpPNn (nn : Word) : Statement (.jpPNn nn) := rfl
theorem di : Statement .di := rfl
theorem callPNn (nn : Word) : Statement (.callPNn nn) := rfl
theorem pushAf : Statement .pushAf := rfl
theorem orN (n : Byte) : Statement (.orN n) := rfl
theorem rst30 : Statement .rst30 := rfl
theorem retM : Statement .retM := rfl
theorem ldSpHl : Statement .ldSpHl := rfl
theorem jpMNn (nn : Word) : Statement (.jpMNn nn) := rfl
theorem ei : Statement .ei := rfl
theorem callMNn (nn : Word) : Statement (.callMNn nn) := rfl
theorem cpN (n : Byte) : Statement (.cpN n) := rfl
theorem rst38 : Statement .rst38 := rfl
theorem rlcB : Statement .rlcB := rfl
theorem rlcC : Statement .rlcC := rfl
theorem rlcD : Statement .rlcD := rfl
theorem rlcE : Statement .rlcE := rfl
theorem rlcH : Statement .rlcH := rfl
theorem rlcL : Statement .rlcL := rfl
theorem rlcAtHl : Statement .rlcAtHl := rfl
theorem rlcA : Statement .rlcA := rfl
theorem rrcB : Statement .rrcB := rfl
theorem rrcC : Statement .rrcC := rfl
theorem rrcD : Statement .rrcD := rfl
theorem rrcE : Statement .rrcE := rfl
theorem rrcH : Statement .rrcH := rfl
theorem rrcL : Statement .rrcL := rfl
theorem rrcAtHl : Statement .rrcAtHl := rfl
theorem rrcA : Statement .rrcA := rfl
theorem rlB : Statement .rlB := rfl
theorem rlC : Statement .rlC := rfl
theorem rlD : Statement .rlD := rfl
theorem rlE : Statement .rlE := rfl
theorem rlH : Statement .rlH := rfl
theorem rlL : Statement .rlL := rfl
theorem rlAtHl : Statement .rlAtHl := rfl
theorem rlA : Statement .rlA := rfl
theorem rrB : Statement .rrB := rfl
theorem rrC : Statement .rrC := rfl
theorem rrD : Statement .rrD := rfl
theorem rrE : Statement .rrE := rfl
theorem rrH : Statement .rrH := rfl
theorem rrL : Statement .rrL := rfl
theorem rrAtHl : Statement .rrAtHl := rfl
theorem rrA : Statement .rrA := rfl
theorem slaB : Statement .slaB := rfl
theorem slaC : Statement .slaC := rfl
theorem slaD : Statement .slaD := rfl
theorem slaE : Statement .slaE := rfl
theorem slaH : Statement .slaH := rfl
theorem slaL : Statement .slaL := rfl
theorem slaAtHl : Statement .slaAtHl := rfl
theorem slaA : Statement .slaA := rfl
theorem sraB : Statement .sraB := rfl
theorem sraC : Statement .sraC := rfl
theorem sraD : Statement .sraD := rfl
theorem sraE : Statement .sraE := rfl
theorem sraH : Statement .sraH := rfl
theorem sraL : Statement .sraL := rfl
theorem sraAtHl : Statement .sraAtHl := rfl
theorem sraA : Statement .sraA := rfl
theorem sllB : Statement .sllB := rfl
theorem sllC : Statement .sllC := rfl
theorem sllD : Statement .sllD := rfl
theorem sllE : Statement .sllE := rfl
theorem sllH : Statement .sllH := rfl
theorem sllL : Statement .sllL := rfl
theorem sllAtHl : Statement .sllAtHl := rfl
theorem sllA : Statement .sllA := rfl
theorem srlB : Statement .srlB := rfl
theorem srlC : Statement .srlC := rfl
theorem srlD : Statement .srlD := rfl
theorem srlE : Statement .srlE := rfl
theorem srlH : Statement .srlH := rfl
theorem srlL : Statement .srlL := rfl
theorem srlAtHl : Statement .srlAtHl := rfl
theorem srlA : Statement .srlA := rfl
theorem bit0B : Statement .bit0B := rfl
theorem bit0C : Statement .bit0C := rfl
theorem bit0D : Statement .bit0D := rfl
theorem bit0E : Statement .bit0E := rfl
theorem bit0H : Statement .bit0H := rfl
theorem bit0L : Statement .bit0L := rfl
theorem bit0AtHl : Statement .bit0AtHl := rfl
theorem bit0A : Statement .bit0A := rfl
theorem bit1B : Statement .bit1B := rfl
theorem bit1C : Statement .bit1C := rfl
theorem bit1D : Statement .bit1D := rfl
theorem bit1E : Statement .bit1E := rfl
theorem bit1H : Statement .bit1H := rfl
theorem bit1L : Statement .bit1L := rfl
theorem bit1AtHl : Statement .bit1AtHl := rfl
theorem bit1A : Statement .bit1A := rfl
theorem bit2B : Statement .bit2B := rfl
theorem bit2C : Statement .bit2C := rfl
theorem bit2D : Statement .bit2D := rfl
theorem bit2E : Statement .bit2E := rfl
theorem bit2H : Statement .bit2H := rfl
theorem bit2L : Statement .bit2L := rfl
theorem bit2AtHl : Statement .bit2AtHl := rfl
theorem bit2A : Statement .bit2A := rfl
theorem bit3B : Statement .bit3B := rfl
theorem bit3C : Statement .bit3C := rfl
theorem bit3D : Statement .bit3D := rfl
theorem bit3E : Statement .bit3E := rfl
theorem bit3H : Statement .bit3H := rfl
theorem bit3L : Statement .bit3L := rfl
theorem bit3AtHl : Statement .bit3AtHl := rfl
theorem bit3A : Statement .bit3A := rfl
theorem bit4B : Statement .bit4B := rfl
theorem bit4C : Statement .bit4C := rfl
theorem bit4D : Statement .bit4D := rfl
theorem bit4E : Statement .bit4E := rfl
theorem bit4H : Statement .bit4H := rfl
theorem bit4L : Statement .bit4L := rfl
theorem bit4AtHl : Statement .bit4AtHl := rfl
theorem bit4A : Statement .bit4A := rfl
theorem bit5B : Statement .bit5B := rfl
theorem bit5C : Statement .bit5C := rfl
theorem bit5D : Statement .bit5D := rfl
theorem bit5E : Statement .bit5E := rfl
theorem bit5H : Statement .bit5H := rfl
theorem bit5L : Statement .bit5L := rfl
theorem bit5AtHl : Statement .bit5AtHl := rfl
theorem bit5A : Statement .bit5A := rfl
theorem bit6B : Statement .bit6B := rfl
theorem bit6C : Statement .bit6C := rfl
theorem bit6D : Statement .bit6D := rfl
theorem bit6E : Statement .bit6E := rfl
theorem bit6H : Statement .bit6H := rfl
theorem bit6L : Statement .bit6L := rfl
theorem bit6AtHl : Statement .bit6AtHl := rfl
theorem bit6A : Statement .bit6A := rfl
theorem bit7B : Statement .bit7B := rfl
theorem bit7C : Statement .bit7C := rfl
theorem bit7D : Statement .bit7D := rfl
theorem bit7E : Statement .bit7E := rfl
theorem bit7H : Statement .bit7H := rfl
theorem bit7L : Statement .bit7L := rfl
theorem bit7AtHl : Statement .bit7AtHl := rfl
theorem bit7A : Statement .bit7A := rfl
theorem res0B : Statement .res0B := rfl
theorem res0C : Statement .res0C := rfl
theorem res0D : Statement .res0D := rfl
theorem res0E : Statement .res0E := rfl
theorem res0H : Statement .res0H := rfl
theorem res0L : Statement .res0L := rfl
theorem res0AtHl : Statement .res0AtHl := rfl
theorem res0A : Statement .res0A := rfl
theorem res1B : Statement .res1B := rfl
theorem res1C : Statement .res1C := rfl
theorem res1D : Statement .res1D := rfl
theorem res1E : Statement .res1E := rfl
theorem res1H : Statement .res1H := rfl
theorem res1L : Statement .res1L := rfl
theorem res1AtHl : Statement .res1AtHl := rfl
theorem res1A : Statement .res1A := rfl
theorem res2B : Statement .res2B := rfl
theorem res2C : Statement .res2C := rfl
theorem res2D : Statement .res2D := rfl
theorem res2E : Statement .res2E := rfl
theorem res2H : Statement .res2H := rfl
theorem res2L : Statement .res2L := rfl
theorem res2AtHl : Statement .res2AtHl := rfl
theorem res2A : Statement .res2A := rfl
theorem res3B : Statement .res3B := rfl
theorem res3C : Statement .res3C := rfl
theorem res3D : Statement .res3D := rfl
theorem res3E : Statement .res3E := rfl
theorem res3H : Statement .res3H := rfl
theorem res3L : Statement .res3L := rfl
theorem res3AtHl : Statement .res3AtHl := rfl
theorem res3A : Statement .res3A := rfl
theorem res4B : Statement .res4B := rfl
theorem res4C : Statement .res4C := rfl
theorem res4D : Statement .res4D := rfl
theorem res4E : Statement .res4E := rfl
theorem res4H : Statement .res4H := rfl
theorem res4L : Statement .res4L := rfl
theorem res4AtHl : Statement .res4AtHl := rfl
theorem res4A : Statement .res4A := rfl
theorem res5B : Statement .res5B := rfl
theorem res5C : Statement .res5C := rfl
theorem res5D : Statement .res5D := rfl
theorem res5E : Statement .res5E := rfl
theorem res5H : Statement .res5H := rfl
theorem res5L : Statement .res5L := rfl
theorem res5AtHl : Statement .res5AtHl := rfl
theorem res5A : Statement .res5A := rfl
theorem res6B : Statement .res6B := rfl
theorem res6C : Statement .res6C := rfl
theorem res6D : Statement .res6D := rfl
theorem res6E : Statement .res6E := rfl
theorem res6H : Statement .res6H := rfl
theorem res6L : Statement .res6L := rfl
theorem res6AtHl : Statement .res6AtHl := rfl
theorem res6A : Statement .res6A := rfl
theorem res7B : Statement .res7B := rfl
theorem res7C : Statement .res7C := rfl
theorem res7D : Statement .res7D := rfl
theorem res7E : Statement .res7E := rfl
theorem res7H : Statement .res7H := rfl
theorem res7L : Statement .res7L := rfl
theorem res7AtHl : Statement .res7AtHl := rfl
theorem res7A : Statement .res7A := rfl
theorem set0B : Statement .set0B := rfl
theorem set0C : Statement .set0C := rfl
theorem set0D : Statement .set0D := rfl
theorem set0E : Statement .set0E := rfl
theorem set0H : Statement .set0H := rfl
theorem set0L : Statement .set0L := rfl
theorem set0AtHl : Statement .set0AtHl := rfl
theorem set0A : Statement .set0A := rfl
theorem set1B : Statement .set1B := rfl
theorem set1C : Statement .set1C := rfl
theorem set1D : Statement .set1D := rfl
theorem set1E : Statement .set1E := rfl
theorem set1H : Statement .set1H := rfl
theorem set1L : Statement .set1L := rfl
theorem set1AtHl : Statement .set1AtHl := rfl
theorem set1A : Statement .set1A := rfl
theorem set2B : Statement .set2B := rfl
theorem set2C : Statement .set2C := rfl
theorem set2D : Statement .set2D := rfl
theorem set2E : Statement .set2E := rfl
theorem set2H : Statement .set2H := rfl
theorem set2L : Statement .set2L := rfl
theorem set2AtHl : Statement .set2AtHl := rfl
theorem set2A : Statement .set2A := rfl
theorem set3B : Statement .set3B := rfl
theorem set3C : Statement .set3C := rfl
theorem set3D : Statement .set3D := rfl
theorem set3E : Statement .set3E := rfl
theorem set3H : Statement .set3H := rfl
theorem set3L : Statement .set3L := rfl
theorem set3AtHl : Statement .set3AtHl := rfl
theorem set3A : Statement .set3A := rfl
theorem set4B : Statement .set4B := rfl
theorem set4C : Statement .set4C := rfl
theorem set4D : Statement .set4D := rfl
theorem set4E : Statement .set4E := rfl
theorem set4H : Statement .set4H := rfl
theorem set4L : Statement .set4L := rfl
theorem set4AtHl : Statement .set4AtHl := rfl
theorem set4A : Statement .set4A := rfl
theorem set5B : Statement .set5B := rfl
theorem set5C : Statement .set5C := rfl
theorem set5D : Statement .set5D := rfl
theorem set5E : Statement .set5E := rfl
theorem set5H : Statement .set5H := rfl
theorem set5L : Statement .set5L := rfl
theorem set5AtHl : Statement .set5AtHl := rfl
theorem set5A : Statement .set5A := rfl
theorem set6B : Statement .set6B := rfl
theorem set6C : Statement .set6C := rfl
theorem set6D : Statement .set6D := rfl
theorem set6E : Statement .set6E := rfl
theorem set6H : Statement .set6H := rfl
theorem set6L : Statement .set6L := rfl
theorem set6AtHl : Statement .set6AtHl := rfl
theorem set6A : Statement .set6A := rfl
theorem set7B : Statement .set7B := rfl
theorem set7C : Statement .set7C := rfl
theorem set7D : Statement .set7D := rfl
theorem set7E : Statement .set7E := rfl
theorem set7H : Statement .set7H := rfl
theorem set7L : Statement .set7L := rfl
theorem set7AtHl : Statement .set7AtHl := rfl
theorem set7A : Statement .set7A := rfl
theorem nopStar (op : Byte) : Statement (.nopStar op) := rfl
theorem inBAtC : Statement .inBAtC := rfl
theorem outAtCB : Statement .outAtCB := rfl
theorem sbcHlBc : Statement .sbcHlBc := rfl
theorem ldAtNnBc (nn : Word) : Statement (.ldAtNnBc nn) := rfl
theorem neg (y : BitVec 3) : Statement (.neg y) := rfl
theorem retn (y : BitVec 3) : Statement (.retn y) := rfl
theorem im0 (y : BitVec 3) : Statement (.im0 y) := rfl
theorem ldIA : Statement .ldIA := rfl
theorem inCAtC : Statement .inCAtC := rfl
theorem outAtCC : Statement .outAtCC := rfl
theorem adcHlBc : Statement .adcHlBc := rfl
theorem ldBcAtNn (nn : Word) : Statement (.ldBcAtNn nn) := rfl
theorem reti : Statement .reti := rfl
theorem ldRA : Statement .ldRA := rfl
theorem inDAtC : Statement .inDAtC := rfl
theorem outAtCD : Statement .outAtCD := rfl
theorem sbcHlDe : Statement .sbcHlDe := rfl
theorem ldAtNnDe (nn : Word) : Statement (.ldAtNnDe nn) := rfl
theorem im1 (y : BitVec 3) : Statement (.im1 y) := rfl
theorem ldAI : Statement .ldAI := rfl
theorem inEAtC : Statement .inEAtC := rfl
theorem outAtCE : Statement .outAtCE := rfl
theorem adcHlDe : Statement .adcHlDe := rfl
theorem ldDeAtNn (nn : Word) : Statement (.ldDeAtNn nn) := rfl
theorem im2 (y : BitVec 3) : Statement (.im2 y) := rfl
theorem ldAR : Statement .ldAR := rfl
theorem inHAtC : Statement .inHAtC := rfl
theorem outAtCH : Statement .outAtCH := rfl
theorem sbcHlHl : Statement .sbcHlHl := rfl
theorem ldAtNnHlEd (nn : Word) : Statement (.ldAtNnHlEd nn) := rfl
theorem rrd : Statement .rrd := rfl
theorem inLAtC : Statement .inLAtC := rfl
theorem outAtCL : Statement .outAtCL := rfl
theorem adcHlHl : Statement .adcHlHl := rfl
theorem ldHlAtNnEd (nn : Word) : Statement (.ldHlAtNnEd nn) := rfl
theorem rld : Statement .rld := rfl
theorem inFAtC : Statement .inFAtC := rfl
theorem outAtC0 : Statement .outAtC0 := rfl
theorem sbcHlSp : Statement .sbcHlSp := rfl
theorem ldAtNnSp (nn : Word) : Statement (.ldAtNnSp nn) := rfl
theorem inAAtC : Statement .inAAtC := rfl
theorem outAtCA : Statement .outAtCA := rfl
theorem adcHlSp : Statement .adcHlSp := rfl
theorem ldSpAtNn (nn : Word) : Statement (.ldSpAtNn nn) := rfl
theorem ldi : Statement .ldi := rfl
theorem cpi : Statement .cpi := rfl
theorem ini : Statement .ini := rfl
theorem outi : Statement .outi := rfl
theorem ldd : Statement .ldd := rfl
theorem cpd : Statement .cpd := rfl
theorem ind : Statement .ind := rfl
theorem outd : Statement .outd := rfl
theorem ldir : Statement .ldir := rfl
theorem cpir : Statement .cpir := rfl
theorem inir : Statement .inir := rfl
theorem otir : Statement .otir := rfl
theorem lddr : Statement .lddr := rfl
theorem cpdr : Statement .cpdr := rfl
theorem indr : Statement .indr := rfl
theorem otdr : Statement .otdr := rfl
theorem ignoredNop (ii : Idx) : Statement (.ignoredNop ii) := rfl
theorem ignoredLdBcNn (ii : Idx) (nn : Word) : Statement (.ignoredLdBcNn ii nn) := rfl
theorem ignoredLdAtBcA (ii : Idx) : Statement (.ignoredLdAtBcA ii) := rfl
theorem ignoredIncBc (ii : Idx) : Statement (.ignoredIncBc ii) := rfl
theorem ignoredIncB (ii : Idx) : Statement (.ignoredIncB ii) := rfl
theorem ignoredDecB (ii : Idx) : Statement (.ignoredDecB ii) := rfl
theorem ignoredLdBN (ii : Idx) (n : Byte) : Statement (.ignoredLdBN ii n) := rfl
theorem ignoredRlca (ii : Idx) : Statement (.ignoredRlca ii) := rfl
theorem ignoredExAfAf (ii : Idx) : Statement (.ignoredExAfAf ii) := rfl
theorem addIdxBc (ii : Idx) : Statement (.addIdxBc ii) := rfl
theorem ignoredLdAAtBc (ii : Idx) : Statement (.ignoredLdAAtBc ii) := rfl
theorem ignoredDecBc (ii : Idx) : Statement (.ignoredDecBc ii) := rfl
theorem ignoredIncC (ii : Idx) : Statement (.ignoredIncC ii) := rfl
theorem ignoredDecC (ii : Idx) : Statement (.ignoredDecC ii) := rfl
theorem ignoredLdCN (ii : Idx) (n : Byte) : Statement (.ignoredLdCN ii n) := rfl
theorem ignoredRrca (ii : Idx) : Statement (.ignoredRrca ii) := rfl
theorem ignoredDjnzE (ii : Idx) (e : Byte) : Statement (.ignoredDjnzE ii e) := rfl
theorem ignoredLdDeNn (ii : Idx) (nn : Word) : Statement (.ignoredLdDeNn ii nn) := rfl
theorem ignoredLdAtDeA (ii : Idx) : Statement (.ignoredLdAtDeA ii) := rfl
theorem ignoredIncDe (ii : Idx) : Statement (.ignoredIncDe ii) := rfl
theorem ignoredIncD (ii : Idx) : Statement (.ignoredIncD ii) := rfl
theorem ignoredDecD (ii : Idx) : Statement (.ignoredDecD ii) := rfl
theorem ignoredLdDN (ii : Idx) (n : Byte) : Statement (.ignoredLdDN ii n) := rfl
theorem ignoredRla (ii : Idx) : Statement (.ignoredRla ii) := rfl
theorem ignoredJrE (ii : Idx) (e : Byte) : Statement (.ignoredJrE ii e) := rfl
theorem addIdxDe (ii : Idx) : Statement (.addIdxDe ii) := rfl
theorem ignoredLdAAtDe (ii : Idx) : Statement (.ignoredLdAAtDe ii) := rfl
theorem ignoredDecDe (ii : Idx) : Statement (.ignoredDecDe ii) := rfl
theorem ignoredIncE (ii : Idx) : Statement (.ignoredIncE ii) := rfl
theorem ignoredDecE (ii : Idx) : Statement (.ignoredDecE ii) := rfl
theorem ignoredLdEN (ii : Idx) (n : Byte) : Statement (.ignoredLdEN ii n) := rfl
theorem ignoredRra (ii : Idx) : Statement (.ignoredRra ii) := rfl
theorem ignoredJrNzE (ii : Idx) (e : Byte) : Statement (.ignoredJrNzE ii e) := rfl
theorem ldIdxNn (ii : Idx) (nn : Word) : Statement (.ldIdxNn ii nn) := rfl
theorem ldAtNnIdx (ii : Idx) (nn : Word) : Statement (.ldAtNnIdx ii nn) := rfl
theorem incIdx (ii : Idx) : Statement (.incIdx ii) := rfl
theorem incIdxH (ii : Idx) : Statement (.incIdxH ii) := rfl
theorem decIdxH (ii : Idx) : Statement (.decIdxH ii) := rfl
theorem ldIdxHN (ii : Idx) (n : Byte) : Statement (.ldIdxHN ii n) := rfl
theorem ignoredDaa (ii : Idx) : Statement (.ignoredDaa ii) := rfl
theorem ignoredJrZE (ii : Idx) (e : Byte) : Statement (.ignoredJrZE ii e) := rfl
theorem addIdxIdx (ii : Idx) : Statement (.addIdxIdx ii) := rfl
theorem ldIdxAtNn (ii : Idx) (nn : Word) : Statement (.ldIdxAtNn ii nn) := rfl
theorem decIdx (ii : Idx) : Statement (.decIdx ii) := rfl
theorem incIdxL (ii : Idx) : Statement (.incIdxL ii) := rfl
theorem decIdxL (ii : Idx) : Statement (.decIdxL ii) := rfl
theorem ldIdxLN (ii : Idx) (n : Byte) : Statement (.ldIdxLN ii n) := rfl
theorem ignoredCpl (ii : Idx) : Statement (.ignoredCpl ii) := rfl
theorem ignoredJrNcE (ii : Idx) (e : Byte) : Statement (.ignoredJrNcE ii e) := rfl
theorem ignoredLdSpNn (ii : Idx) (nn : Word) : Statement (.ignoredLdSpNn ii nn) := rfl
theorem ignoredLdAtNnA (ii : Idx) (nn : Word) : Statement (.ignoredLdAtNnA ii nn) := rfl
theorem ignoredIncSp (ii : Idx) : Statement (.ignoredIncSp ii) := rfl
theorem incAtIdx (ii : Idx) (d : Byte) : Statement (.incAtIdx ii d) := rfl
theorem decAtIdx (ii : Idx) (d : Byte) : Statement (.decAtIdx ii d) := rfl
theorem ldAtIdxN (ii : Idx) (d : Byte) (n : Byte) : Statement (.ldAtIdxN ii d n) := rfl
theorem ignoredScf (ii : Idx) : Statement (.ignoredScf ii) := rfl
theorem ignoredJrCE (ii : Idx) (e : Byte) : Statement (.ignoredJrCE ii e) := rfl
theorem addIdxSp (ii : Idx) : Statement (.addIdxSp ii) := rfl
theorem ignoredLdAAtNn (ii : Idx) (nn : Word) : Statement (.ignoredLdAAtNn ii nn) := rfl
theorem ignoredDecSp (ii : Idx) : Statement (.ignoredDecSp ii) := rfl
theorem ignoredIncA (ii : Idx) : Statement (.ignoredIncA ii) := rfl
theorem ignoredDecA (ii : Idx) : Statement (.ignoredDecA ii) := rfl
theorem ignoredLdAN (ii : Idx) (n : Byte) : Statement (.ignoredLdAN ii n) := rfl
theorem ignoredCcf (ii : Idx) : Statement (.ignoredCcf ii) := rfl
theorem ignoredLdBB (ii : Idx) : Statement (.ignoredLdBB ii) := rfl
theorem ignoredLdBC (ii : Idx) : Statement (.ignoredLdBC ii) := rfl
theorem ignoredLdBD (ii : Idx) : Statement (.ignoredLdBD ii) := rfl
theorem ignoredLdBE (ii : Idx) : Statement (.ignoredLdBE ii) := rfl
theorem ldBIdxH (ii : Idx) : Statement (.ldBIdxH ii) := rfl
theorem ldBIdxL (ii : Idx) : Statement (.ldBIdxL ii) := rfl
theorem ldBAtIdx (ii : Idx) (d : Byte) : Statement (.ldBAtIdx ii d) := rfl
theorem ignoredLdBA (ii : Idx) : Statement (.ignoredLdBA ii) := rfl
theorem ignoredLdCB (ii : Idx) : Statement (.ignoredLdCB ii) := rfl
theorem ignoredLdCC (ii : Idx) : Statement (.ignoredLdCC ii) := rfl
theorem ignoredLdCD (ii : Idx) : Statement (.ignoredLdCD ii) := rfl
theorem ignoredLdCE (ii : Idx) : Statement (.ignoredLdCE ii) := rfl
theorem ldCIdxH (ii : Idx) : Statement (.ldCIdxH ii) := rfl
theorem ldCIdxL (ii : Idx) : Statement (.ldCIdxL ii) := rfl
theorem ldCAtIdx (ii : Idx) (d : Byte) : Statement (.ldCAtIdx ii d) := rfl
theorem ignoredLdCA (ii : Idx) : Statement (.ignoredLdCA ii) := rfl
theorem ignoredLdDB (ii : Idx) : Statement (.ignoredLdDB ii) := rfl
theorem ignoredLdDC (ii : Idx) : Statement (.ignoredLdDC ii) := rfl
theorem ignoredLdDD (ii : Idx) : Statement (.ignoredLdDD ii) := rfl
theorem ignoredLdDE (ii : Idx) : Statement (.ignoredLdDE ii) := rfl
theorem ldDIdxH (ii : Idx) : Statement (.ldDIdxH ii) := rfl
theorem ldDIdxL (ii : Idx) : Statement (.ldDIdxL ii) := rfl
theorem ldDAtIdx (ii : Idx) (d : Byte) : Statement (.ldDAtIdx ii d) := rfl
theorem ignoredLdDA (ii : Idx) : Statement (.ignoredLdDA ii) := rfl
theorem ignoredLdEB (ii : Idx) : Statement (.ignoredLdEB ii) := rfl
theorem ignoredLdEC (ii : Idx) : Statement (.ignoredLdEC ii) := rfl
theorem ignoredLdED (ii : Idx) : Statement (.ignoredLdED ii) := rfl
theorem ignoredLdEE (ii : Idx) : Statement (.ignoredLdEE ii) := rfl
theorem ldEIdxH (ii : Idx) : Statement (.ldEIdxH ii) := rfl
theorem ldEIdxL (ii : Idx) : Statement (.ldEIdxL ii) := rfl
theorem ldEAtIdx (ii : Idx) (d : Byte) : Statement (.ldEAtIdx ii d) := rfl
theorem ignoredLdEA (ii : Idx) : Statement (.ignoredLdEA ii) := rfl
theorem ldIdxHB (ii : Idx) : Statement (.ldIdxHB ii) := rfl
theorem ldIdxHC (ii : Idx) : Statement (.ldIdxHC ii) := rfl
theorem ldIdxHD (ii : Idx) : Statement (.ldIdxHD ii) := rfl
theorem ldIdxHE (ii : Idx) : Statement (.ldIdxHE ii) := rfl
theorem ldIdxHIdxH (ii : Idx) : Statement (.ldIdxHIdxH ii) := rfl
theorem ldIdxHIdxL (ii : Idx) : Statement (.ldIdxHIdxL ii) := rfl
theorem ldHAtIdx (ii : Idx) (d : Byte) : Statement (.ldHAtIdx ii d) := rfl
theorem ldIdxHA (ii : Idx) : Statement (.ldIdxHA ii) := rfl
theorem ldIdxLB (ii : Idx) : Statement (.ldIdxLB ii) := rfl
theorem ldIdxLC (ii : Idx) : Statement (.ldIdxLC ii) := rfl
theorem ldIdxLD (ii : Idx) : Statement (.ldIdxLD ii) := rfl
theorem ldIdxLE (ii : Idx) : Statement (.ldIdxLE ii) := rfl
theorem ldIdxLIdxH (ii : Idx) : Statement (.ldIdxLIdxH ii) := rfl
theorem ldIdxLIdxL (ii : Idx) : Statement (.ldIdxLIdxL ii) := rfl
theorem ldLAtIdx (ii : Idx) (d : Byte) : Statement (.ldLAtIdx ii d) := rfl
theorem ldIdxLA (ii : Idx) : Statement (.ldIdxLA ii) := rfl
theorem ldAtIdxB (ii : Idx) (d : Byte) : Statement (.ldAtIdxB ii d) := rfl
theorem ldAtIdxC (ii : Idx) (d : Byte) : Statement (.ldAtIdxC ii d) := rfl
theorem ldAtIdxD (ii : Idx) (d : Byte) : Statement (.ldAtIdxD ii d) := rfl
theorem ldAtIdxE (ii : Idx) (d : Byte) : Statement (.ldAtIdxE ii d) := rfl
theorem ldAtIdxH (ii : Idx) (d : Byte) : Statement (.ldAtIdxH ii d) := rfl
theorem ldAtIdxL (ii : Idx) (d : Byte) : Statement (.ldAtIdxL ii d) := rfl
theorem ignoredHalt (ii : Idx) : Statement (.ignoredHalt ii) := rfl
theorem ldAtIdxA (ii : Idx) (d : Byte) : Statement (.ldAtIdxA ii d) := rfl
theorem ignoredLdAB (ii : Idx) : Statement (.ignoredLdAB ii) := rfl
theorem ignoredLdAC (ii : Idx) : Statement (.ignoredLdAC ii) := rfl
theorem ignoredLdAD (ii : Idx) : Statement (.ignoredLdAD ii) := rfl
theorem ignoredLdAE (ii : Idx) : Statement (.ignoredLdAE ii) := rfl
theorem ldAIdxH (ii : Idx) : Statement (.ldAIdxH ii) := rfl
theorem ldAIdxL (ii : Idx) : Statement (.ldAIdxL ii) := rfl
theorem ldAAtIdx (ii : Idx) (d : Byte) : Statement (.ldAAtIdx ii d) := rfl
theorem ignoredLdAA (ii : Idx) : Statement (.ignoredLdAA ii) := rfl
theorem ignoredAddAB (ii : Idx) : Statement (.ignoredAddAB ii) := rfl
theorem ignoredAddAC (ii : Idx) : Statement (.ignoredAddAC ii) := rfl
theorem ignoredAddAD (ii : Idx) : Statement (.ignoredAddAD ii) := rfl
theorem ignoredAddAE (ii : Idx) : Statement (.ignoredAddAE ii) := rfl
theorem addAIdxH (ii : Idx) : Statement (.addAIdxH ii) := rfl
theorem addAIdxL (ii : Idx) : Statement (.addAIdxL ii) := rfl
theorem addAAtIdx (ii : Idx) (d : Byte) : Statement (.addAAtIdx ii d) := rfl
theorem ignoredAddAA (ii : Idx) : Statement (.ignoredAddAA ii) := rfl
theorem ignoredAdcAB (ii : Idx) : Statement (.ignoredAdcAB ii) := rfl
theorem ignoredAdcAC (ii : Idx) : Statement (.ignoredAdcAC ii) := rfl
theorem ignoredAdcAD (ii : Idx) : Statement (.ignoredAdcAD ii) := rfl
theorem ignoredAdcAE (ii : Idx) : Statement (.ignoredAdcAE ii) := rfl
theorem adcAIdxH (ii : Idx) : Statement (.adcAIdxH ii) := rfl
theorem adcAIdxL (ii : Idx) : Statement (.adcAIdxL ii) := rfl
theorem adcAAtIdx (ii : Idx) (d : Byte) : Statement (.adcAAtIdx ii d) := rfl
theorem ignoredAdcAA (ii : Idx) : Statement (.ignoredAdcAA ii) := rfl
theorem ignoredSubB (ii : Idx) : Statement (.ignoredSubB ii) := rfl
theorem ignoredSubC (ii : Idx) : Statement (.ignoredSubC ii) := rfl
theorem ignoredSubD (ii : Idx) : Statement (.ignoredSubD ii) := rfl
theorem ignoredSubE (ii : Idx) : Statement (.ignoredSubE ii) := rfl
theorem subIdxH (ii : Idx) : Statement (.subIdxH ii) := rfl
theorem subIdxL (ii : Idx) : Statement (.subIdxL ii) := rfl
theorem subAtIdx (ii : Idx) (d : Byte) : Statement (.subAtIdx ii d) := rfl
theorem ignoredSubA (ii : Idx) : Statement (.ignoredSubA ii) := rfl
theorem ignoredSbcAB (ii : Idx) : Statement (.ignoredSbcAB ii) := rfl
theorem ignoredSbcAC (ii : Idx) : Statement (.ignoredSbcAC ii) := rfl
theorem ignoredSbcAD (ii : Idx) : Statement (.ignoredSbcAD ii) := rfl
theorem ignoredSbcAE (ii : Idx) : Statement (.ignoredSbcAE ii) := rfl
theorem sbcAIdxH (ii : Idx) : Statement (.sbcAIdxH ii) := rfl
theorem sbcAIdxL (ii : Idx) : Statement (.sbcAIdxL ii) := rfl
theorem sbcAAtIdx (ii : Idx) (d : Byte) : Statement (.sbcAAtIdx ii d) := rfl
theorem ignoredSbcAA (ii : Idx) : Statement (.ignoredSbcAA ii) := rfl
theorem ignoredAndB (ii : Idx) : Statement (.ignoredAndB ii) := rfl
theorem ignoredAndC (ii : Idx) : Statement (.ignoredAndC ii) := rfl
theorem ignoredAndD (ii : Idx) : Statement (.ignoredAndD ii) := rfl
theorem ignoredAndE (ii : Idx) : Statement (.ignoredAndE ii) := rfl
theorem andIdxH (ii : Idx) : Statement (.andIdxH ii) := rfl
theorem andIdxL (ii : Idx) : Statement (.andIdxL ii) := rfl
theorem andAtIdx (ii : Idx) (d : Byte) : Statement (.andAtIdx ii d) := rfl
theorem ignoredAndA (ii : Idx) : Statement (.ignoredAndA ii) := rfl
theorem ignoredXorB (ii : Idx) : Statement (.ignoredXorB ii) := rfl
theorem ignoredXorC (ii : Idx) : Statement (.ignoredXorC ii) := rfl
theorem ignoredXorD (ii : Idx) : Statement (.ignoredXorD ii) := rfl
theorem ignoredXorE (ii : Idx) : Statement (.ignoredXorE ii) := rfl
theorem xorIdxH (ii : Idx) : Statement (.xorIdxH ii) := rfl
theorem xorIdxL (ii : Idx) : Statement (.xorIdxL ii) := rfl
theorem xorAtIdx (ii : Idx) (d : Byte) : Statement (.xorAtIdx ii d) := rfl
theorem ignoredXorA (ii : Idx) : Statement (.ignoredXorA ii) := rfl
theorem ignoredOrB (ii : Idx) : Statement (.ignoredOrB ii) := rfl
theorem ignoredOrC (ii : Idx) : Statement (.ignoredOrC ii) := rfl
theorem ignoredOrD (ii : Idx) : Statement (.ignoredOrD ii) := rfl
theorem ignoredOrE (ii : Idx) : Statement (.ignoredOrE ii) := rfl
theorem orIdxH (ii : Idx) : Statement (.orIdxH ii) := rfl
theorem orIdxL (ii : Idx) : Statement (.orIdxL ii) := rfl
theorem orAtIdx (ii : Idx) (d : Byte) : Statement (.orAtIdx ii d) := rfl
theorem ignoredOrA (ii : Idx) : Statement (.ignoredOrA ii) := rfl
theorem ignoredCpB (ii : Idx) : Statement (.ignoredCpB ii) := rfl
theorem ignoredCpC (ii : Idx) : Statement (.ignoredCpC ii) := rfl
theorem ignoredCpD (ii : Idx) : Statement (.ignoredCpD ii) := rfl
theorem ignoredCpE (ii : Idx) : Statement (.ignoredCpE ii) := rfl
theorem cpIdxH (ii : Idx) : Statement (.cpIdxH ii) := rfl
theorem cpIdxL (ii : Idx) : Statement (.cpIdxL ii) := rfl
theorem cpAtIdx (ii : Idx) (d : Byte) : Statement (.cpAtIdx ii d) := rfl
theorem ignoredCpA (ii : Idx) : Statement (.ignoredCpA ii) := rfl
theorem ignoredRetNz (ii : Idx) : Statement (.ignoredRetNz ii) := rfl
theorem ignoredPopBc (ii : Idx) : Statement (.ignoredPopBc ii) := rfl
theorem ignoredJpNzNn (ii : Idx) (nn : Word) : Statement (.ignoredJpNzNn ii nn) := rfl
theorem ignoredJpNn (ii : Idx) (nn : Word) : Statement (.ignoredJpNn ii nn) := rfl
theorem ignoredCallNzNn (ii : Idx) (nn : Word) : Statement (.ignoredCallNzNn ii nn) := rfl
theorem ignoredPushBc (ii : Idx) : Statement (.ignoredPushBc ii) := rfl
theorem ignoredAddAN (ii : Idx) (n : Byte) : Statement (.ignoredAddAN ii n) := rfl
theorem ignoredRst00 (ii : Idx) : Statement (.ignoredRst00 ii) := rfl
theorem ignoredRetZ (ii : Idx) : Statement (.ignoredRetZ ii) := rfl
theorem ignoredRet (ii : Idx) : Statement (.ignoredRet ii) := rfl
theorem ignoredJpZNn (ii : Idx) (nn : Word) : Statement (.ignoredJpZNn ii nn) := rfl
theorem ignoredCallZNn (ii : Idx) (nn : Word) : Statement (.ignoredCallZNn ii nn) := rfl
theorem ignoredCallNn (ii : Idx) (nn : Word) : Statement (.ignoredCallNn ii nn) := rfl
theorem ignoredAdcAN (ii : Idx) (n : Byte) : Statement (.ignoredAdcAN ii n) := rfl
theorem ignoredRst08 (ii : Idx) : Statement (.ignoredRst08 ii) := rfl
theorem ignoredRetNc (ii : Idx) : Statement (.ignoredRetNc ii) := rfl
theorem ignoredPopDe (ii : Idx) : Statement (.ignoredPopDe ii) := rfl
theorem ignoredJpNcNn (ii : Idx) (nn : Word) : Statement (.ignoredJpNcNn ii nn) := rfl
theorem ignoredOutAtNA (ii : Idx) (n : Byte) : Statement (.ignoredOutAtNA ii n) := rfl
theorem ignoredCallNcNn (ii : Idx) (nn : Word) : Statement (.ignoredCallNcNn ii nn) := rfl
theorem ignoredPushDe (ii : Idx) : Statement (.ignoredPushDe ii) := rfl
theorem ignoredSubN (ii : Idx) (n : Byte) : Statement (.ignoredSubN ii n) := rfl
theorem ignoredRst10 (ii : Idx) : Statement (.ignoredRst10 ii) := rfl
theorem ignoredRetC (ii : Idx) : Statement (.ignoredRetC ii) := rfl
theorem ignoredExx (ii : Idx) : Statement (.ignoredExx ii) := rfl
theorem ignoredJpCNn (ii : Idx) (nn : Word) : Statement (.ignoredJpCNn ii nn) := rfl
theorem ignoredInAAtN (ii : Idx) (n : Byte) : Statement (.ignoredInAAtN ii n) := rfl
theorem ignoredCallCNn (ii : Idx) (nn : Word) : Statement (.ignoredCallCNn ii nn) := rfl
theorem redundantPrefix (first : Idx) (second : Idx) : Statement (.redundantPrefix first second) := rfl
theorem ignoredSbcAN (ii : Idx) (n : Byte) : Statement (.ignoredSbcAN ii n) := rfl
theorem ignoredRst18 (ii : Idx) : Statement (.ignoredRst18 ii) := rfl
theorem ignoredRetPo (ii : Idx) : Statement (.ignoredRetPo ii) := rfl
theorem popIdx (ii : Idx) : Statement (.popIdx ii) := rfl
theorem ignoredJpPoNn (ii : Idx) (nn : Word) : Statement (.ignoredJpPoNn ii nn) := rfl
theorem exAtSpIdx (ii : Idx) : Statement (.exAtSpIdx ii) := rfl
theorem ignoredCallPoNn (ii : Idx) (nn : Word) : Statement (.ignoredCallPoNn ii nn) := rfl
theorem pushIdx (ii : Idx) : Statement (.pushIdx ii) := rfl
theorem ignoredAndN (ii : Idx) (n : Byte) : Statement (.ignoredAndN ii n) := rfl
theorem ignoredRst20 (ii : Idx) : Statement (.ignoredRst20 ii) := rfl
theorem ignoredRetPe (ii : Idx) : Statement (.ignoredRetPe ii) := rfl
theorem jpAtIdx (ii : Idx) : Statement (.jpAtIdx ii) := rfl
theorem ignoredJpPeNn (ii : Idx) (nn : Word) : Statement (.ignoredJpPeNn ii nn) := rfl
theorem ignoredExDeHl (ii : Idx) : Statement (.ignoredExDeHl ii) := rfl
theorem ignoredCallPeNn (ii : Idx) (nn : Word) : Statement (.ignoredCallPeNn ii nn) := rfl
theorem ignoredEd (ii : Idx) (o : EdOp) : Statement (.ignoredEd ii o) := by cases o <;> rfl
theorem ignoredXorN (ii : Idx) (n : Byte) : Statement (.ignoredXorN ii n) := rfl
theorem ignoredRst28 (ii : Idx) : Statement (.ignoredRst28 ii) := rfl
theorem ignoredRetP (ii : Idx) : Statement (.ignoredRetP ii) := rfl
theorem ignoredPopAf (ii : Idx) : Statement (.ignoredPopAf ii) := rfl
theorem ignoredJpPNn (ii : Idx) (nn : Word) : Statement (.ignoredJpPNn ii nn) := rfl
theorem ignoredDi (ii : Idx) : Statement (.ignoredDi ii) := rfl
theorem ignoredCallPNn (ii : Idx) (nn : Word) : Statement (.ignoredCallPNn ii nn) := rfl
theorem ignoredPushAf (ii : Idx) : Statement (.ignoredPushAf ii) := rfl
theorem ignoredOrN (ii : Idx) (n : Byte) : Statement (.ignoredOrN ii n) := rfl
theorem ignoredRst30 (ii : Idx) : Statement (.ignoredRst30 ii) := rfl
theorem ignoredRetM (ii : Idx) : Statement (.ignoredRetM ii) := rfl
theorem ldSpIdx (ii : Idx) : Statement (.ldSpIdx ii) := rfl
theorem ignoredJpMNn (ii : Idx) (nn : Word) : Statement (.ignoredJpMNn ii nn) := rfl
theorem ignoredEi (ii : Idx) : Statement (.ignoredEi ii) := rfl
theorem ignoredCallMNn (ii : Idx) (nn : Word) : Statement (.ignoredCallMNn ii nn) := rfl
theorem ignoredCpN (ii : Idx) (n : Byte) : Statement (.ignoredCpN ii n) := rfl
theorem ignoredRst38 (ii : Idx) : Statement (.ignoredRst38 ii) := rfl
theorem rlcAtIdxB (ii : Idx) (d : Byte) : Statement (.rlcAtIdxB ii d) := rfl
theorem rlcAtIdxC (ii : Idx) (d : Byte) : Statement (.rlcAtIdxC ii d) := rfl
theorem rlcAtIdxD (ii : Idx) (d : Byte) : Statement (.rlcAtIdxD ii d) := rfl
theorem rlcAtIdxE (ii : Idx) (d : Byte) : Statement (.rlcAtIdxE ii d) := rfl
theorem rlcAtIdxH (ii : Idx) (d : Byte) : Statement (.rlcAtIdxH ii d) := rfl
theorem rlcAtIdxL (ii : Idx) (d : Byte) : Statement (.rlcAtIdxL ii d) := rfl
theorem rlcAtIdx (ii : Idx) (d : Byte) : Statement (.rlcAtIdx ii d) := rfl
theorem rlcAtIdxA (ii : Idx) (d : Byte) : Statement (.rlcAtIdxA ii d) := rfl
theorem rrcAtIdxB (ii : Idx) (d : Byte) : Statement (.rrcAtIdxB ii d) := rfl
theorem rrcAtIdxC (ii : Idx) (d : Byte) : Statement (.rrcAtIdxC ii d) := rfl
theorem rrcAtIdxD (ii : Idx) (d : Byte) : Statement (.rrcAtIdxD ii d) := rfl
theorem rrcAtIdxE (ii : Idx) (d : Byte) : Statement (.rrcAtIdxE ii d) := rfl
theorem rrcAtIdxH (ii : Idx) (d : Byte) : Statement (.rrcAtIdxH ii d) := rfl
theorem rrcAtIdxL (ii : Idx) (d : Byte) : Statement (.rrcAtIdxL ii d) := rfl
theorem rrcAtIdx (ii : Idx) (d : Byte) : Statement (.rrcAtIdx ii d) := rfl
theorem rrcAtIdxA (ii : Idx) (d : Byte) : Statement (.rrcAtIdxA ii d) := rfl
theorem rlAtIdxB (ii : Idx) (d : Byte) : Statement (.rlAtIdxB ii d) := rfl
theorem rlAtIdxC (ii : Idx) (d : Byte) : Statement (.rlAtIdxC ii d) := rfl
theorem rlAtIdxD (ii : Idx) (d : Byte) : Statement (.rlAtIdxD ii d) := rfl
theorem rlAtIdxE (ii : Idx) (d : Byte) : Statement (.rlAtIdxE ii d) := rfl
theorem rlAtIdxH (ii : Idx) (d : Byte) : Statement (.rlAtIdxH ii d) := rfl
theorem rlAtIdxL (ii : Idx) (d : Byte) : Statement (.rlAtIdxL ii d) := rfl
theorem rlAtIdx (ii : Idx) (d : Byte) : Statement (.rlAtIdx ii d) := rfl
theorem rlAtIdxA (ii : Idx) (d : Byte) : Statement (.rlAtIdxA ii d) := rfl
theorem rrAtIdxB (ii : Idx) (d : Byte) : Statement (.rrAtIdxB ii d) := rfl
theorem rrAtIdxC (ii : Idx) (d : Byte) : Statement (.rrAtIdxC ii d) := rfl
theorem rrAtIdxD (ii : Idx) (d : Byte) : Statement (.rrAtIdxD ii d) := rfl
theorem rrAtIdxE (ii : Idx) (d : Byte) : Statement (.rrAtIdxE ii d) := rfl
theorem rrAtIdxH (ii : Idx) (d : Byte) : Statement (.rrAtIdxH ii d) := rfl
theorem rrAtIdxL (ii : Idx) (d : Byte) : Statement (.rrAtIdxL ii d) := rfl
theorem rrAtIdx (ii : Idx) (d : Byte) : Statement (.rrAtIdx ii d) := rfl
theorem rrAtIdxA (ii : Idx) (d : Byte) : Statement (.rrAtIdxA ii d) := rfl
theorem slaAtIdxB (ii : Idx) (d : Byte) : Statement (.slaAtIdxB ii d) := rfl
theorem slaAtIdxC (ii : Idx) (d : Byte) : Statement (.slaAtIdxC ii d) := rfl
theorem slaAtIdxD (ii : Idx) (d : Byte) : Statement (.slaAtIdxD ii d) := rfl
theorem slaAtIdxE (ii : Idx) (d : Byte) : Statement (.slaAtIdxE ii d) := rfl
theorem slaAtIdxH (ii : Idx) (d : Byte) : Statement (.slaAtIdxH ii d) := rfl
theorem slaAtIdxL (ii : Idx) (d : Byte) : Statement (.slaAtIdxL ii d) := rfl
theorem slaAtIdx (ii : Idx) (d : Byte) : Statement (.slaAtIdx ii d) := rfl
theorem slaAtIdxA (ii : Idx) (d : Byte) : Statement (.slaAtIdxA ii d) := rfl
theorem sraAtIdxB (ii : Idx) (d : Byte) : Statement (.sraAtIdxB ii d) := rfl
theorem sraAtIdxC (ii : Idx) (d : Byte) : Statement (.sraAtIdxC ii d) := rfl
theorem sraAtIdxD (ii : Idx) (d : Byte) : Statement (.sraAtIdxD ii d) := rfl
theorem sraAtIdxE (ii : Idx) (d : Byte) : Statement (.sraAtIdxE ii d) := rfl
theorem sraAtIdxH (ii : Idx) (d : Byte) : Statement (.sraAtIdxH ii d) := rfl
theorem sraAtIdxL (ii : Idx) (d : Byte) : Statement (.sraAtIdxL ii d) := rfl
theorem sraAtIdx (ii : Idx) (d : Byte) : Statement (.sraAtIdx ii d) := rfl
theorem sraAtIdxA (ii : Idx) (d : Byte) : Statement (.sraAtIdxA ii d) := rfl
theorem sllAtIdxB (ii : Idx) (d : Byte) : Statement (.sllAtIdxB ii d) := rfl
theorem sllAtIdxC (ii : Idx) (d : Byte) : Statement (.sllAtIdxC ii d) := rfl
theorem sllAtIdxD (ii : Idx) (d : Byte) : Statement (.sllAtIdxD ii d) := rfl
theorem sllAtIdxE (ii : Idx) (d : Byte) : Statement (.sllAtIdxE ii d) := rfl
theorem sllAtIdxH (ii : Idx) (d : Byte) : Statement (.sllAtIdxH ii d) := rfl
theorem sllAtIdxL (ii : Idx) (d : Byte) : Statement (.sllAtIdxL ii d) := rfl
theorem sllAtIdx (ii : Idx) (d : Byte) : Statement (.sllAtIdx ii d) := rfl
theorem sllAtIdxA (ii : Idx) (d : Byte) : Statement (.sllAtIdxA ii d) := rfl
theorem srlAtIdxB (ii : Idx) (d : Byte) : Statement (.srlAtIdxB ii d) := rfl
theorem srlAtIdxC (ii : Idx) (d : Byte) : Statement (.srlAtIdxC ii d) := rfl
theorem srlAtIdxD (ii : Idx) (d : Byte) : Statement (.srlAtIdxD ii d) := rfl
theorem srlAtIdxE (ii : Idx) (d : Byte) : Statement (.srlAtIdxE ii d) := rfl
theorem srlAtIdxH (ii : Idx) (d : Byte) : Statement (.srlAtIdxH ii d) := rfl
theorem srlAtIdxL (ii : Idx) (d : Byte) : Statement (.srlAtIdxL ii d) := rfl
theorem srlAtIdx (ii : Idx) (d : Byte) : Statement (.srlAtIdx ii d) := rfl
theorem srlAtIdxA (ii : Idx) (d : Byte) : Statement (.srlAtIdxA ii d) := rfl
theorem bit0AtIdx (ii : Idx) (d : Byte) (z : BitVec 3) : Statement (.bit0AtIdx ii d z) := rfl
theorem bit1AtIdx (ii : Idx) (d : Byte) (z : BitVec 3) : Statement (.bit1AtIdx ii d z) := rfl
theorem bit2AtIdx (ii : Idx) (d : Byte) (z : BitVec 3) : Statement (.bit2AtIdx ii d z) := rfl
theorem bit3AtIdx (ii : Idx) (d : Byte) (z : BitVec 3) : Statement (.bit3AtIdx ii d z) := rfl
theorem bit4AtIdx (ii : Idx) (d : Byte) (z : BitVec 3) : Statement (.bit4AtIdx ii d z) := rfl
theorem bit5AtIdx (ii : Idx) (d : Byte) (z : BitVec 3) : Statement (.bit5AtIdx ii d z) := rfl
theorem bit6AtIdx (ii : Idx) (d : Byte) (z : BitVec 3) : Statement (.bit6AtIdx ii d z) := rfl
theorem bit7AtIdx (ii : Idx) (d : Byte) (z : BitVec 3) : Statement (.bit7AtIdx ii d z) := rfl
theorem res0AtIdxB (ii : Idx) (d : Byte) : Statement (.res0AtIdxB ii d) := rfl
theorem res0AtIdxC (ii : Idx) (d : Byte) : Statement (.res0AtIdxC ii d) := rfl
theorem res0AtIdxD (ii : Idx) (d : Byte) : Statement (.res0AtIdxD ii d) := rfl
theorem res0AtIdxE (ii : Idx) (d : Byte) : Statement (.res0AtIdxE ii d) := rfl
theorem res0AtIdxH (ii : Idx) (d : Byte) : Statement (.res0AtIdxH ii d) := rfl
theorem res0AtIdxL (ii : Idx) (d : Byte) : Statement (.res0AtIdxL ii d) := rfl
theorem res0AtIdx (ii : Idx) (d : Byte) : Statement (.res0AtIdx ii d) := rfl
theorem res0AtIdxA (ii : Idx) (d : Byte) : Statement (.res0AtIdxA ii d) := rfl
theorem res1AtIdxB (ii : Idx) (d : Byte) : Statement (.res1AtIdxB ii d) := rfl
theorem res1AtIdxC (ii : Idx) (d : Byte) : Statement (.res1AtIdxC ii d) := rfl
theorem res1AtIdxD (ii : Idx) (d : Byte) : Statement (.res1AtIdxD ii d) := rfl
theorem res1AtIdxE (ii : Idx) (d : Byte) : Statement (.res1AtIdxE ii d) := rfl
theorem res1AtIdxH (ii : Idx) (d : Byte) : Statement (.res1AtIdxH ii d) := rfl
theorem res1AtIdxL (ii : Idx) (d : Byte) : Statement (.res1AtIdxL ii d) := rfl
theorem res1AtIdx (ii : Idx) (d : Byte) : Statement (.res1AtIdx ii d) := rfl
theorem res1AtIdxA (ii : Idx) (d : Byte) : Statement (.res1AtIdxA ii d) := rfl
theorem res2AtIdxB (ii : Idx) (d : Byte) : Statement (.res2AtIdxB ii d) := rfl
theorem res2AtIdxC (ii : Idx) (d : Byte) : Statement (.res2AtIdxC ii d) := rfl
theorem res2AtIdxD (ii : Idx) (d : Byte) : Statement (.res2AtIdxD ii d) := rfl
theorem res2AtIdxE (ii : Idx) (d : Byte) : Statement (.res2AtIdxE ii d) := rfl
theorem res2AtIdxH (ii : Idx) (d : Byte) : Statement (.res2AtIdxH ii d) := rfl
theorem res2AtIdxL (ii : Idx) (d : Byte) : Statement (.res2AtIdxL ii d) := rfl
theorem res2AtIdx (ii : Idx) (d : Byte) : Statement (.res2AtIdx ii d) := rfl
theorem res2AtIdxA (ii : Idx) (d : Byte) : Statement (.res2AtIdxA ii d) := rfl
theorem res3AtIdxB (ii : Idx) (d : Byte) : Statement (.res3AtIdxB ii d) := rfl
theorem res3AtIdxC (ii : Idx) (d : Byte) : Statement (.res3AtIdxC ii d) := rfl
theorem res3AtIdxD (ii : Idx) (d : Byte) : Statement (.res3AtIdxD ii d) := rfl
theorem res3AtIdxE (ii : Idx) (d : Byte) : Statement (.res3AtIdxE ii d) := rfl
theorem res3AtIdxH (ii : Idx) (d : Byte) : Statement (.res3AtIdxH ii d) := rfl
theorem res3AtIdxL (ii : Idx) (d : Byte) : Statement (.res3AtIdxL ii d) := rfl
theorem res3AtIdx (ii : Idx) (d : Byte) : Statement (.res3AtIdx ii d) := rfl
theorem res3AtIdxA (ii : Idx) (d : Byte) : Statement (.res3AtIdxA ii d) := rfl
theorem res4AtIdxB (ii : Idx) (d : Byte) : Statement (.res4AtIdxB ii d) := rfl
theorem res4AtIdxC (ii : Idx) (d : Byte) : Statement (.res4AtIdxC ii d) := rfl
theorem res4AtIdxD (ii : Idx) (d : Byte) : Statement (.res4AtIdxD ii d) := rfl
theorem res4AtIdxE (ii : Idx) (d : Byte) : Statement (.res4AtIdxE ii d) := rfl
theorem res4AtIdxH (ii : Idx) (d : Byte) : Statement (.res4AtIdxH ii d) := rfl
theorem res4AtIdxL (ii : Idx) (d : Byte) : Statement (.res4AtIdxL ii d) := rfl
theorem res4AtIdx (ii : Idx) (d : Byte) : Statement (.res4AtIdx ii d) := rfl
theorem res4AtIdxA (ii : Idx) (d : Byte) : Statement (.res4AtIdxA ii d) := rfl
theorem res5AtIdxB (ii : Idx) (d : Byte) : Statement (.res5AtIdxB ii d) := rfl
theorem res5AtIdxC (ii : Idx) (d : Byte) : Statement (.res5AtIdxC ii d) := rfl
theorem res5AtIdxD (ii : Idx) (d : Byte) : Statement (.res5AtIdxD ii d) := rfl
theorem res5AtIdxE (ii : Idx) (d : Byte) : Statement (.res5AtIdxE ii d) := rfl
theorem res5AtIdxH (ii : Idx) (d : Byte) : Statement (.res5AtIdxH ii d) := rfl
theorem res5AtIdxL (ii : Idx) (d : Byte) : Statement (.res5AtIdxL ii d) := rfl
theorem res5AtIdx (ii : Idx) (d : Byte) : Statement (.res5AtIdx ii d) := rfl
theorem res5AtIdxA (ii : Idx) (d : Byte) : Statement (.res5AtIdxA ii d) := rfl
theorem res6AtIdxB (ii : Idx) (d : Byte) : Statement (.res6AtIdxB ii d) := rfl
theorem res6AtIdxC (ii : Idx) (d : Byte) : Statement (.res6AtIdxC ii d) := rfl
theorem res6AtIdxD (ii : Idx) (d : Byte) : Statement (.res6AtIdxD ii d) := rfl
theorem res6AtIdxE (ii : Idx) (d : Byte) : Statement (.res6AtIdxE ii d) := rfl
theorem res6AtIdxH (ii : Idx) (d : Byte) : Statement (.res6AtIdxH ii d) := rfl
theorem res6AtIdxL (ii : Idx) (d : Byte) : Statement (.res6AtIdxL ii d) := rfl
theorem res6AtIdx (ii : Idx) (d : Byte) : Statement (.res6AtIdx ii d) := rfl
theorem res6AtIdxA (ii : Idx) (d : Byte) : Statement (.res6AtIdxA ii d) := rfl
theorem res7AtIdxB (ii : Idx) (d : Byte) : Statement (.res7AtIdxB ii d) := rfl
theorem res7AtIdxC (ii : Idx) (d : Byte) : Statement (.res7AtIdxC ii d) := rfl
theorem res7AtIdxD (ii : Idx) (d : Byte) : Statement (.res7AtIdxD ii d) := rfl
theorem res7AtIdxE (ii : Idx) (d : Byte) : Statement (.res7AtIdxE ii d) := rfl
theorem res7AtIdxH (ii : Idx) (d : Byte) : Statement (.res7AtIdxH ii d) := rfl
theorem res7AtIdxL (ii : Idx) (d : Byte) : Statement (.res7AtIdxL ii d) := rfl
theorem res7AtIdx (ii : Idx) (d : Byte) : Statement (.res7AtIdx ii d) := rfl
theorem res7AtIdxA (ii : Idx) (d : Byte) : Statement (.res7AtIdxA ii d) := rfl
theorem set0AtIdxB (ii : Idx) (d : Byte) : Statement (.set0AtIdxB ii d) := rfl
theorem set0AtIdxC (ii : Idx) (d : Byte) : Statement (.set0AtIdxC ii d) := rfl
theorem set0AtIdxD (ii : Idx) (d : Byte) : Statement (.set0AtIdxD ii d) := rfl
theorem set0AtIdxE (ii : Idx) (d : Byte) : Statement (.set0AtIdxE ii d) := rfl
theorem set0AtIdxH (ii : Idx) (d : Byte) : Statement (.set0AtIdxH ii d) := rfl
theorem set0AtIdxL (ii : Idx) (d : Byte) : Statement (.set0AtIdxL ii d) := rfl
theorem set0AtIdx (ii : Idx) (d : Byte) : Statement (.set0AtIdx ii d) := rfl
theorem set0AtIdxA (ii : Idx) (d : Byte) : Statement (.set0AtIdxA ii d) := rfl
theorem set1AtIdxB (ii : Idx) (d : Byte) : Statement (.set1AtIdxB ii d) := rfl
theorem set1AtIdxC (ii : Idx) (d : Byte) : Statement (.set1AtIdxC ii d) := rfl
theorem set1AtIdxD (ii : Idx) (d : Byte) : Statement (.set1AtIdxD ii d) := rfl
theorem set1AtIdxE (ii : Idx) (d : Byte) : Statement (.set1AtIdxE ii d) := rfl
theorem set1AtIdxH (ii : Idx) (d : Byte) : Statement (.set1AtIdxH ii d) := rfl
theorem set1AtIdxL (ii : Idx) (d : Byte) : Statement (.set1AtIdxL ii d) := rfl
theorem set1AtIdx (ii : Idx) (d : Byte) : Statement (.set1AtIdx ii d) := rfl
theorem set1AtIdxA (ii : Idx) (d : Byte) : Statement (.set1AtIdxA ii d) := rfl
theorem set2AtIdxB (ii : Idx) (d : Byte) : Statement (.set2AtIdxB ii d) := rfl
theorem set2AtIdxC (ii : Idx) (d : Byte) : Statement (.set2AtIdxC ii d) := rfl
theorem set2AtIdxD (ii : Idx) (d : Byte) : Statement (.set2AtIdxD ii d) := rfl
theorem set2AtIdxE (ii : Idx) (d : Byte) : Statement (.set2AtIdxE ii d) := rfl
theorem set2AtIdxH (ii : Idx) (d : Byte) : Statement (.set2AtIdxH ii d) := rfl
theorem set2AtIdxL (ii : Idx) (d : Byte) : Statement (.set2AtIdxL ii d) := rfl
theorem set2AtIdx (ii : Idx) (d : Byte) : Statement (.set2AtIdx ii d) := rfl
theorem set2AtIdxA (ii : Idx) (d : Byte) : Statement (.set2AtIdxA ii d) := rfl
theorem set3AtIdxB (ii : Idx) (d : Byte) : Statement (.set3AtIdxB ii d) := rfl
theorem set3AtIdxC (ii : Idx) (d : Byte) : Statement (.set3AtIdxC ii d) := rfl
theorem set3AtIdxD (ii : Idx) (d : Byte) : Statement (.set3AtIdxD ii d) := rfl
theorem set3AtIdxE (ii : Idx) (d : Byte) : Statement (.set3AtIdxE ii d) := rfl
theorem set3AtIdxH (ii : Idx) (d : Byte) : Statement (.set3AtIdxH ii d) := rfl
theorem set3AtIdxL (ii : Idx) (d : Byte) : Statement (.set3AtIdxL ii d) := rfl
theorem set3AtIdx (ii : Idx) (d : Byte) : Statement (.set3AtIdx ii d) := rfl
theorem set3AtIdxA (ii : Idx) (d : Byte) : Statement (.set3AtIdxA ii d) := rfl
theorem set4AtIdxB (ii : Idx) (d : Byte) : Statement (.set4AtIdxB ii d) := rfl
theorem set4AtIdxC (ii : Idx) (d : Byte) : Statement (.set4AtIdxC ii d) := rfl
theorem set4AtIdxD (ii : Idx) (d : Byte) : Statement (.set4AtIdxD ii d) := rfl
theorem set4AtIdxE (ii : Idx) (d : Byte) : Statement (.set4AtIdxE ii d) := rfl
theorem set4AtIdxH (ii : Idx) (d : Byte) : Statement (.set4AtIdxH ii d) := rfl
theorem set4AtIdxL (ii : Idx) (d : Byte) : Statement (.set4AtIdxL ii d) := rfl
theorem set4AtIdx (ii : Idx) (d : Byte) : Statement (.set4AtIdx ii d) := rfl
theorem set4AtIdxA (ii : Idx) (d : Byte) : Statement (.set4AtIdxA ii d) := rfl
theorem set5AtIdxB (ii : Idx) (d : Byte) : Statement (.set5AtIdxB ii d) := rfl
theorem set5AtIdxC (ii : Idx) (d : Byte) : Statement (.set5AtIdxC ii d) := rfl
theorem set5AtIdxD (ii : Idx) (d : Byte) : Statement (.set5AtIdxD ii d) := rfl
theorem set5AtIdxE (ii : Idx) (d : Byte) : Statement (.set5AtIdxE ii d) := rfl
theorem set5AtIdxH (ii : Idx) (d : Byte) : Statement (.set5AtIdxH ii d) := rfl
theorem set5AtIdxL (ii : Idx) (d : Byte) : Statement (.set5AtIdxL ii d) := rfl
theorem set5AtIdx (ii : Idx) (d : Byte) : Statement (.set5AtIdx ii d) := rfl
theorem set5AtIdxA (ii : Idx) (d : Byte) : Statement (.set5AtIdxA ii d) := rfl
theorem set6AtIdxB (ii : Idx) (d : Byte) : Statement (.set6AtIdxB ii d) := rfl
theorem set6AtIdxC (ii : Idx) (d : Byte) : Statement (.set6AtIdxC ii d) := rfl
theorem set6AtIdxD (ii : Idx) (d : Byte) : Statement (.set6AtIdxD ii d) := rfl
theorem set6AtIdxE (ii : Idx) (d : Byte) : Statement (.set6AtIdxE ii d) := rfl
theorem set6AtIdxH (ii : Idx) (d : Byte) : Statement (.set6AtIdxH ii d) := rfl
theorem set6AtIdxL (ii : Idx) (d : Byte) : Statement (.set6AtIdxL ii d) := rfl
theorem set6AtIdx (ii : Idx) (d : Byte) : Statement (.set6AtIdx ii d) := rfl
theorem set6AtIdxA (ii : Idx) (d : Byte) : Statement (.set6AtIdxA ii d) := rfl
theorem set7AtIdxB (ii : Idx) (d : Byte) : Statement (.set7AtIdxB ii d) := rfl
theorem set7AtIdxC (ii : Idx) (d : Byte) : Statement (.set7AtIdxC ii d) := rfl
theorem set7AtIdxD (ii : Idx) (d : Byte) : Statement (.set7AtIdxD ii d) := rfl
theorem set7AtIdxE (ii : Idx) (d : Byte) : Statement (.set7AtIdxE ii d) := rfl
theorem set7AtIdxH (ii : Idx) (d : Byte) : Statement (.set7AtIdxH ii d) := rfl
theorem set7AtIdxL (ii : Idx) (d : Byte) : Statement (.set7AtIdxL ii d) := rfl
theorem set7AtIdx (ii : Idx) (d : Byte) : Statement (.set7AtIdx ii d) := rfl
theorem set7AtIdxA (ii : Idx) (d : Byte) : Statement (.set7AtIdxA ii d) := rfl

end Sys2Proof.Laws.Length
end

