-- ==== Sys2Proof/Laws/Step.lean ====
section
/-! SUPPORT. What one step can do, said once, and what stored bytes read as. -/

namespace Sys2Proof.Machine

/-- The bytes of an instruction are those its operation encodes. -/
theorem encode_of_op {i : Instr} {o : Op} (h : i.op = o) : encode i = o.bytes := by
  rw [encode, h]

/-! One or two bytes written to memory. -/

theorem stored_of_write {s t : State} {a : Word} {v : Byte} (h : t.mem = Memory.write s.mem a.toNat v) :
    Stored s t a v :=
  ⟨by simp [State.peek, h], fun x hx => by
    rw [State.peek, State.peek, h, Memory.read_write_other _ _ fun e => hx (BitVec.eq_of_toNat_eq e)]⟩

theorem stored2_of_write {s t : State} {a b : Word} {v w : Byte} (ne : a ≠ b)
    (h : t.mem = Memory.write (Memory.write s.mem a.toNat v) b.toNat w) : Stored2 s t a v b w := by
  have other {x y : Word} (hx : x ≠ y) : x.toNat ≠ y.toNat := fun e => hx (BitVec.eq_of_toNat_eq e)
  refine ⟨?_, by simp [State.peek, h], fun x ha hb => ?_⟩
  · rw [State.peek, h, Memory.read_write_other _ _ (other ne), Memory.read_write_same]
  · rw [State.peek, State.peek, h, Memory.read_write_other _ _ (other hb), Memory.read_write_other _ _ (other ha)]

/-! Fetching depends on memory alone. -/

theorem State.bytesAt_congr {s t : State} (h : s.mem = t.mem) (a : Word) (n : Nat) :
    s.bytesAt a n = t.bytesAt a n := by
  induction n generalizing a with
  | zero => rfl
  | succ n ih => simp only [State.bytesAt, ih, State.peek, h]

theorem State.fetchCalls_congr {s t : State} (h : s.mem = t.mem) (a : Word) (n : Nat) :
    s.fetchCalls a n = t.fetchCalls a n := by
  induction n generalizing a with
  | zero => rfl
  | succ n ih => simp only [State.fetchCalls, ih, State.peek, h]

theorem State.length_bytesAt (s : State) (a : Word) (n : Nat) : (s.bytesAt a n).length = n := by
  induction n generalizing a with
  | zero => rfl
  | succ n ih => simp [State.bytesAt, ih]

theorem State.length_fetchCalls (s : State) (a : Word) (n : Nat) : (s.fetchCalls a n).length = n := by
  induction n generalizing a with
  | zero => rfl
  | succ n ih => simp [State.fetchCalls, ih]

theorem State.mem_fetchCalls {s : State} {a : Word} {n : Nat} {c : BusCall} (h : c ∈ s.fetchCalls a n) :
    ∃ x v, c = .readMem x v := by
  induction n generalizing a with
  | zero => cases h
  | succ n ih =>
    rcases List.mem_cons.1 h with rfl | h
    · exact ⟨_, _, rfl⟩
    · exact ih h

/-! The four things a step can be (R301, R307). -/

theorem executeNext_beginStep (s : State) :
    executeNext s.beginStep =
      match decode s.pendingPrefix (s.bytesAt s.pc 5) with
      | .error _ => .refused .undecodable
      | .ok d => .next ((runOp d.instr.op (s.beginStep.fetched d)).finished s.pendingPrefix d.instr) := by
  have h := State.bytesAt_congr (s := s.beginStep) (t := s) rfl s.pc 5
  rw [executeNext]
  rw [show s.beginStep.pendingPrefix = s.pendingPrefix from rfl, show s.beginStep.pc = s.pc from rfl, h]
  cases decode s.pendingPrefix (s.bytesAt s.pc 5) with
  | error e => rfl
  | ok d => simp only [exec_eq]

/-- Everything a step that answers a next state can be. -/
theorem step_cases {s t : State} (h : step s = .next t) :
    (s.acceptsNmi = true ∧ t = respond .nmi s.beginStep) ∨
    (s.acceptsNmi = false ∧ s.acceptsMaskable = true ∧ t = respond (maskableCause s.im) s.beginStep) ∨
    (s.acceptsNmi = false ∧ s.acceptsMaskable = false ∧ s.halted = true ∧ t = haltedIdle s.beginStep) ∨
    (s.Executes ∧ ∃ d, decode s.pendingPrefix (s.bytesAt s.pc 5) = .ok d ∧
      t = (runOp d.instr.op (s.beginStep.fetched d)).finished s.pendingPrefix d.instr) := by
  rw [step, runStep, executeNext_beginStep] at h
  cases hn : s.acceptsNmi <;> cases hm : s.acceptsMaskable <;> cases hh : s.halted <;>
    simp only [hn, hm, hh, if_true, Bool.false_eq_true, if_false] at h
  case false.false.false =>
    refine .inr (.inr (.inr ⟨⟨hn, hm, hh⟩, ?_⟩))
    split at h
    · cases h
    · exact ⟨_, by assumption, by injection h with h; exact h.symm⟩
  all_goals
    injection h with h
    subst h
    simp

end Sys2Proof.Machine
end

