-- ==== Sys2Proof/Tests/Vectors.lean ====
section
/-! SUPPORT. Single steps from spec/95_test_vectors.md, part 2: each expected value is the spec's. -/

namespace Sys2Proof.Tests

open Sys2Proof.Machine

-- A step decodes, and so has no compiled code (see Sys2Proof/Decode.lean).
noncomputable section

/-- The common start of spec/95. -/
def start : State :=
  { State.reset with main := ⟨0, 0, 0, 0, 0, 0, 0, 0⟩, ix := 0, iy := 0, pc := 0x1000, sp := 0x8000, pollAnswers := [false] }

/-- One step answers a next state with the property. -/
def After (s : State) (p : State → Bool) : Bool :=
  match step s with
  | .next t => p t
  | .fault _ => false
  | .refused _ => false

set_option maxRecDepth 20000

/-- LD B,C (spec/95, T40.1). -/
theorem test_T40_1 :
    After { start with main := { start.main with c := 0x5A }, mem := [(0x1000, 0x41)] }
      (fun t => t.main.b == 0x5A#8 && t.pc == 0x1001#16 && t.cycles == 4) = true := by
  decide

/-- LD A,(HL) (spec/95, T40.2). -/
theorem test_T40_2 :
    After
      { start with
        main := { start.main with h := 0x40, l := 0x00 },
        mem := [(0x1000, 0x7E), (0x4000, 0x99)] }
      (fun t => t.main.a == 0x99#8 && t.main.f == 0x00#8 && t.memptr == 0x0000#16 && t.cycles == 7) = true := by
  decide

/-- LD (IX-2),0x77 (spec/95, T40.3). -/
theorem test_T40_3 :
    After
      { start with
        ix := 0x4002,
        mem := [(0x1000, 0xDD), (0x1001, 0x36), (0x1002, 0xFE), (0x1003, 0x77)] }
      (fun t => t.peek 0x4000#16 == 0x77#8 && t.memptr == 0x4000#16 && t.pc == 0x1004#16 && t.cycles == 19) = true :=
        by
  decide

/-- LD A,(IY-128) (spec/95, T40.4). -/
theorem test_T40_4 :
    After
      { start with
        iy := 0x4080,
        mem := [(0x1000, 0xFD), (0x1001, 0x7E), (0x1002, 0x80), (0x4000, 0x11)] }
      (fun t => t.main.a == 0x11#8 && t.memptr == 0x4000#16 && t.pc == 0x1003#16 && t.cycles == 19) = true := by
  decide

/-- LD (BC),A (spec/95, T40.5). -/
theorem test_T40_5 :
    After { start with main := { start.main with a := 0x12, b := 0x40, c := 0x00 }, mem := [(0x1000, 0x02)] }
      (fun t => t.peek 0x4000#16 == 0x12#8 && t.memptr == 0x1201#16 && t.cycles == 7) = true := by
  decide

/-- LD A,(0x4000) (spec/95, T40.6). -/
theorem test_T40_6 :
    After { start with mem := [(0x1000, 0x3A), (0x1002, 0x40), (0x4000, 0xC3)] }
      (fun t => t.main.a == 0xC3#8 && t.memptr == 0x4001#16 && t.cycles == 13) = true := by
  decide

/-- LD (0x40FF),A (spec/95, T40.7). -/
theorem test_T40_7 :
    After
      { start with
        main := { start.main with a := 0x56 },
        mem := [(0x1000, 0x32), (0x1001, 0xFF), (0x1002, 0x40)] }
      (fun t => t.peek 0x40FF#16 == 0x56#8 && t.memptr == 0x5600#16 && t.cycles == 13) = true := by
  decide

/-- LD A,I (spec/95, T40.8). -/
theorem test_T40_8 :
    After
      { start with
        main := { start.main with f := 0x01 },
        i := 0x80,
        iff2 := true,
        mem := [(0x1000, 0xED), (0x1001, 0x57)] }
      (fun t => t.main.a == 0x80#8 && t.main.f == 0x85#8 && t.cycles == 9) = true := by
  decide

/-- LD A,I (I=0, IFF2=0) (spec/95, T40.9). -/
theorem test_T40_9 :
    After
      { start with
        main := { start.main with f := 0x00 },
        i := 0x00,
        mem := [(0x1000, 0xED), (0x1001, 0x57)] }
      (fun t => t.main.a == 0x00#8 && t.main.f == 0x40#8 && t.cycles == 9) = true := by
  decide

/-- LD A,R (R wraps in 7 bits) (spec/95, T40.10). -/
theorem test_T40_10 :
    After { start with r := 0x7F, mem := [(0x1000, 0xED), (0x1001, 0x5F)] }
      (fun t => t.main.a == 0x01#8 && t.r == 0x01#8 && t.main.f == 0x00#8 && t.cycles == 9) = true := by
  decide

/-- LD A,R (bit 7 kept) (spec/95, T40.11). -/
theorem test_T40_11 :
    After { start with r := 0xFF, mem := [(0x1000, 0xED), (0x1001, 0x5F)] }
      (fun t => t.main.a == 0x81#8 && t.r == 0x81#8 && t.main.f == 0x80#8 && t.cycles == 9) = true := by
  decide

/-- LD R,A (spec/95, T40.12). -/
theorem test_T40_12 :
    After
      { start with
        main := { start.main with a := 0x80 },
        r := 0x05,
        mem := [(0x1000, 0xED), (0x1001, 0x4F)] }
      (fun t => t.r == 0x80#8 && t.cycles == 9) = true := by
  decide

/-- LD I,A (spec/95, T40.13). -/
theorem test_T40_13 :
    After { start with main := { start.main with a := 0x3F }, mem := [(0x1000, 0xED), (0x1001, 0x47)] }
      (fun t => t.i == 0x3F#8 && t.cycles == 9) = true := by
  decide

/-- LD IXH,0x12 (spec/95, T40.14). -/
theorem test_T40_14 :
    After { start with ix := 0x3456, mem := [(0x1000, 0xDD), (0x1001, 0x26), (0x1002, 0x12)] }
      (fun t => t.ix == 0x1256#16 && t.cycles == 11) = true := by
  decide

/-- LD IXH,IXL (spec/95, T40.15). -/
theorem test_T40_15 :
    After { start with ix := 0x3456, mem := [(0x1000, 0xDD), (0x1001, 0x65)] }
      (fun t => t.ix == 0x5656#16 && t.cycles == 8) = true := by
  decide

/-- LD H,(IX+1) (real H) (spec/95, T40.16). -/
theorem test_T40_16 :
    After
      { start with
        main := { start.main with h := 0x00, l := 0x00 },
        ix := 0x3FFF,
        mem := [(0x1000, 0xDD), (0x1001, 0x66), (0x1002, 0x01), (0x4000, 0xAB)] }
      (fun t => t.main.h == 0xAB#8 && t.ix == 0x3FFF#16 && t.cycles == 19) = true := by
  decide

/-- LD (IX+0),H (real H) (spec/95, T40.17). -/
theorem test_T40_17 :
    After
      { start with
        main := { start.main with h := 0x33 },
        ix := 0x4000,
        mem := [(0x1000, 0xDD), (0x1001, 0x74)] }
      (fun t => t.peek 0x4000#16 == 0x33#8 && t.cycles == 19) = true := by
  decide

/-- LD A,IYL (spec/95, T40.18). -/
theorem test_T40_18 :
    After { start with iy := 0xBEEF, mem := [(0x1000, 0xFD), (0x1001, 0x7D)] }
      (fun t => t.main.a == 0xEF#8 && t.cycles == 8) = true := by
  decide

/-- LD BC,0x1234 (spec/95, T41.1). -/
theorem test_T41_1 :
    After { start with mem := [(0x1000, 0x01), (0x1001, 0x34), (0x1002, 0x12)] }
      (fun t => t.bc == 0x1234#16 && t.pc == 0x1003#16 && t.cycles == 10) = true := by
  decide

/-- LD HL,(0x4000) (spec/95, T41.2). -/
theorem test_T41_2 :
    After { start with mem := [(0x1000, 0x2A), (0x1002, 0x40), (0x4000, 0x34), (0x4001, 0x12)] }
      (fun t => t.hl == 0x1234#16 && t.memptr == 0x4001#16 && t.cycles == 16) = true := by
  decide

/-- LD (0x4000),SP (spec/95, T41.3). -/
theorem test_T41_3 :
    After { start with mem := [(0x1000, 0xED), (0x1001, 0x73), (0x1003, 0x40)] }
      (fun t => t.peek 0x4000#16 == 0x00#8 && t.peek 0x4001#16 == 0x80#8 && t.memptr == 0x4001#16 && t.cycles == 20) =
        true := by
  decide

/-- LD (0xFFFF),HL (wrap) (spec/95, T41.4). -/
theorem test_T41_4 :
    After
      { start with
        main := { start.main with h := 0xAB, l := 0xCD },
        mem := [(0x1000, 0x22), (0x1001, 0xFF), (0x1002, 0xFF)] }
      (fun t => t.peek 0xFFFF#16 == 0xCD#8 && t.peek 0x0000#16 == 0xAB#8 && t.memptr == 0x0000#16 && t.cycles == 16) =
        true := by
  decide

/-- LD DE,(0x4000) (ED) (spec/95, T41.5). -/
theorem test_T41_5 :
    After
      { start with
        mem := [(0x1000, 0xED), (0x1001, 0x5B), (0x1003, 0x40), (0x4000, 0x78), (0x4001, 0x56)] }
      (fun t => t.de == 0x5678#16 && t.memptr == 0x4001#16 && t.cycles == 20) = true := by
  decide

/-- LD IY,(0x4000) (spec/95, T41.6). -/
theorem test_T41_6 :
    After
      { start with
        mem := [(0x1000, 0xFD), (0x1001, 0x2A), (0x1003, 0x40), (0x4000, 0x01), (0x4001, 0x80)] }
      (fun t => t.iy == 0x8001#16 && t.cycles == 20) = true := by
  decide

/-- PUSH AF (spec/95, T41.7). -/
theorem test_T41_7 :
    After { start with main := { start.main with a := 0x12, f := 0xD7 }, mem := [(0x1000, 0xF5)] }
      (fun t => t.peek 0x7FFF#16 == 0x12#8 && t.peek 0x7FFE#16 == 0xD7#8 && t.sp == 0x7FFE#16 && t.cycles == 11) =
        true := by
  decide

/-- POP AF (all F bits) (spec/95, T41.8). -/
theorem test_T41_8 :
    After { start with sp := 0x7FFE, mem := [(0x1000, 0xF1), (0x7FFE, 0xFF)] }
      (fun t => t.main.a == 0x00#8 && t.main.f == 0xFF#8 && t.sp == 0x8000#16 && t.cycles == 10) = true := by
  decide

/-- POP BC at SP=0xFFFF (wrap) (spec/95, T41.9). -/
theorem test_T41_9 :
    After { start with sp := 0xFFFF, mem := [(0x0000, 0x12), (0x1000, 0xC1), (0xFFFF, 0x34)] }
      (fun t => t.bc == 0x1234#16 && t.sp == 0x0001#16 && t.cycles == 10) = true := by
  decide

/-- EX (SP),HL (spec/95, T41.10). -/
theorem test_T41_10 :
    After
      { start with
        main := { start.main with h := 0x12, l := 0x34 },
        sp := 0x7000,
        mem := [(0x1000, 0xE3), (0x7000, 0x78), (0x7001, 0x56)] }
      (fun t => t.hl == 0x5678#16 && t.peek 0x7000#16 == 0x34#8 && t.peek 0x7001#16 == 0x12#8 && t.memptr == 0x5678#16
        && t.cycles == 19) = true := by
  decide

/-- EX (SP),IX (spec/95, T41.11). -/
theorem test_T41_11 :
    After
      { start with
        ix := 0x1234,
        sp := 0x7000,
        mem := [(0x1000, 0xDD), (0x1001, 0xE3), (0x7000, 0x78), (0x7001, 0x56)] }
      (fun t => t.ix == 0x5678#16 && t.peek 0x7000#16 == 0x34#8 && t.peek 0x7001#16 == 0x12#8 && t.memptr == 0x5678#16
        && t.cycles == 23) = true := by
  decide

/-- EX AF,AF' (spec/95, T41.12). -/
theorem test_T41_12 :
    After
      { start with
        main := { start.main with a := 0x12, f := 0x34 },
        alt := { start.alt with a := 0x56, f := 0x78 },
        mem := [(0x1000, 0x08)] }
      (fun t => t.af == 0x5678#16 && t.alt.a == 0x12#8 && t.alt.f == 0x34#8 && t.cycles == 4) = true := by
  decide

/-- EXX (spec/95, T41.13). -/
theorem test_T41_13 :
    After
      { start with
        main := { start.main with b := 0x11, c := 0x11, d := 0x22, e := 0x22, h := 0x33, l := 0x33 },
        alt := { start.alt with b := 0xAA, c := 0xBB },
        mem := [(0x1000, 0xD9)] }
      (fun t => t.bc == 0xAABB#16 && t.de == 0xFFFF#16 && t.hl == 0xFFFF#16 && t.alt.b == 0x11#8 && t.alt.c == 0x11#8
        && t.cycles == 4) = true := by
  decide

/-- EX DE,HL (spec/95, T41.14). -/
theorem test_T41_14 :
    After
      { start with
        main := { start.main with d := 0x11, e := 0x11, h := 0x22, l := 0x22 },
        mem := [(0x1000, 0xEB)] }
      (fun t => t.de == 0x2222#16 && t.hl == 0x1111#16 && t.cycles == 4) = true := by
  decide

/-- EX DE,HL with DD (real HL) (spec/95, T41.15). -/
theorem test_T41_15 :
    After
      { start with
        main := { start.main with d := 0x11, e := 0x11, h := 0x22, l := 0x22 },
        ix := 0x3333,
        mem := [(0x1000, 0xDD), (0x1001, 0xEB)] }
      (fun t => t.de == 0x2222#16 && t.hl == 0x1111#16 && t.ix == 0x3333#16 && t.cycles == 8) = true := by
  decide

/-- LD SP,IX (spec/95, T41.16). -/
theorem test_T41_16 :
    After { start with ix := 0x9000, mem := [(0x1000, 0xDD), (0x1001, 0xF9)] }
      (fun t => t.sp == 0x9000#16 && t.cycles == 10) = true := by
  decide

/-- PUSH IY (spec/95, T41.17). -/
theorem test_T41_17 :
    After { start with iy := 0xBEEF, mem := [(0x1000, 0xFD), (0x1001, 0xE5)] }
      (fun t => t.peek 0x7FFF#16 == 0xBE#8 && t.peek 0x7FFE#16 == 0xEF#8 && t.sp == 0x7FFE#16 && t.cycles == 15) =
        true := by
  decide

/-- LDI (BC 1→0) (spec/95, T42.1). -/
theorem test_T42_1 :
    After
      { start with
        main := { start.main with h := 0x40, l := 0x00, d := 0x50, e := 0x00, b := 0x00, c := 0x01, a := 0x00 },
        mem := [(0x1000, 0xED), (0x1001, 0xA0), (0x4000, 0x3C)] }
      (fun t => t.peek 0x5000#16 == 0x3C#8 && t.hl == 0x4001#16 && t.de == 0x5001#16 && t.bc == 0x0000#16 && t.main.f
        == 0x08#8 && t.cycles == 16) = true := by
  decide

/-- LDI (BC 2→1, Y/X from A+n) (spec/95, T42.2). -/
theorem test_T42_2 :
    After
      { start with
        main := { start.main with h := 0x40, l := 0x00, d := 0x50, e := 0x00, b := 0x00, c := 0x02, a := 0x20 },
        mem := [(0x1000, 0xED), (0x1001, 0xA0), (0x4000, 0x08)] }
      (fun t => t.bc == 0x0001#16 && t.main.f == 0x0C#8 && t.cycles == 16) = true := by
  decide

/-- LDD (spec/95, T42.3). -/
theorem test_T42_3 :
    After
      { start with
        main := { start.main with h := 0x40, l := 0x00, d := 0x50, e := 0x00, b := 0x00, c := 0x01 },
        mem := [(0x1000, 0xED), (0x1001, 0xA8), (0x4000, 0x77)] }
      (fun t => t.peek 0x5000#16 == 0x77#8 && t.hl == 0x3FFF#16 && t.de == 0x4FFF#16 && t.bc == 0x0000#16 && t.main.f
        == 0x20#8 && t.cycles == 16) = true := by
  decide

/-- LDIR, first iteration, BC=0 (spec/95, T42.4). -/
theorem test_T42_4 :
    After
      { start with
        main := { start.main with h := 0x40, l := 0x00, d := 0x50, e := 0x00, b := 0x00, c := 0x00 },
        mem := [(0x1000, 0xED), (0x1001, 0xB0), (0x4000, 0x01)] }
      (fun t => t.bc == 0xFFFF#16 && t.pc == 0x1000#16 && t.hl == 0x4001#16 && t.de == 0x5001#16 && t.memptr ==
        0x1001#16 && t.main.f == 0x04#8 && t.cycles == 21) = true := by
  decide

/-- LDIR, last iteration (spec/95, T42.5). -/
theorem test_T42_5 :
    After
      { start with
        main := { start.main with h := 0x40, l := 0x00, d := 0x50, e := 0x00, b := 0x00, c := 0x01 },
        mem := [(0x1000, 0xED), (0x1001, 0xB0), (0x4000, 0x01)] }
      (fun t => t.bc == 0x0000#16 && t.pc == 0x1002#16 && t.main.f == 0x00#8 && t.cycles == 16) = true := by
  decide

/-- CPI (match) (spec/95, T42.6). -/
theorem test_T42_6 :
    After
      { start with
        main := { start.main with a := 0x42, h := 0x40, l := 0x00, b := 0x00, c := 0x05, f := 0x01 },
        mem := [(0x1000, 0xED), (0x1001, 0xA1), (0x4000, 0x42)] }
      (fun t => t.hl == 0x4001#16 && t.bc == 0x0004#16 && t.main.f == 0x47#8 && t.memptr == 0x0001#16 && t.cycles ==
        16) = true := by
  decide

/-- CPI (half borrow) (spec/95, T42.7). -/
theorem test_T42_7 :
    After
      { start with
        main := { start.main with a := 0x10, h := 0x40, l := 0x00, b := 0x00, c := 0x01 },
        mem := [(0x1000, 0xED), (0x1001, 0xA1), (0x4000, 0x01)] }
      (fun t => t.bc == 0x0000#16 && t.main.f == 0x3A#8 && t.cycles == 16) = true := by
  decide

/-- CPD (spec/95, T42.8). -/
theorem test_T42_8 :
    After
      { start with
        main := { start.main with a := 0x00, h := 0x40, l := 0x00, b := 0x00, c := 0x02 },
        mem := [(0x1000, 0xED), (0x1001, 0xA9), (0x4000, 0x01)] }
      (fun t => t.hl == 0x3FFF#16 && t.bc == 0x0001#16 && t.main.f == 0xBE#8 && t.memptr == 0xFFFF#16 && t.cycles ==
        16) = true := by
  decide

/-- CPIR, found on first iteration (spec/95, T42.9). -/
theorem test_T42_9 :
    After
      { start with
        main := { start.main with a := 0x42, h := 0x40, l := 0x00, b := 0x00, c := 0x10 },
        mem := [(0x1000, 0xED), (0x1001, 0xB1), (0x4000, 0x42)] }
      (fun t => t.pc == 0x1002#16 && t.bc == 0x000F#16 && t.main.f == 0x46#8 && t.cycles == 16) = true := by
  decide

/-- CPIR, not found, repeats (spec/95, T42.10). -/
theorem test_T42_10 :
    After
      { start with
        main := { start.main with a := 0x42, h := 0x40, l := 0x00, b := 0x00, c := 0x10 },
        mem := [(0x1000, 0xED), (0x1001, 0xB1), (0x4000, 0x41)] }
      (fun t => t.pc == 0x1000#16 && t.bc == 0x000F#16 && t.main.f == 0x06#8 && t.memptr == 0x1001#16 && t.cycles ==
        21) = true := by
  decide

/-- INI (spec/95, T42.11). -/
theorem test_T42_11 :
    After
      { start with
        main := { start.main with b := 0x02, c := 0x10, h := 0x40, l := 0x00 },
        ioAnswers := [0x80],
        mem := [(0x1000, 0xED), (0x1001, 0xA2)] }
      (fun t => t.peek 0x4000#16 == 0x80#8 && t.hl == 0x4001#16 && t.main.b == 0x01#8 && t.main.f == 0x06#8 &&
        t.memptr == 0x0211#16 && t.cycles == 16) = true := by
  decide

/-- IND (B 1→0) (spec/95, T42.12). -/
theorem test_T42_12 :
    After
      { start with
        main := { start.main with b := 0x01, c := 0x10, h := 0x40, l := 0x00 },
        ioAnswers := [0xFF],
        mem := [(0x1000, 0xED), (0x1001, 0xAA)] }
      (fun t => t.peek 0x4000#16 == 0xFF#8 && t.hl == 0x3FFF#16 && t.main.b == 0x00#8 && t.main.f == 0x57#8 &&
        t.memptr == 0x010F#16 && t.cycles == 16) = true := by
  decide

/-- OUTI (spec/95, T42.13). -/
theorem test_T42_13 :
    After
      { start with
        main := { start.main with b := 0x01, c := 0x98, h := 0x40, l := 0xFF },
        mem := [(0x1000, 0xED), (0x1001, 0xA3), (0x40FF, 0x01)] }
      (fun t => t.hl == 0x4100#16 && t.main.b == 0x00#8 && t.main.f == 0x40#8 && t.memptr == 0x0099#16 && decide
        (t.calls.contains (.writeIo 0x98 0x01)) && t.cycles == 16) = true := by
  decide

/-- OUTD (spec/95, T42.14). -/
theorem test_T42_14 :
    After
      { start with
        main := { start.main with b := 0x05, c := 0x98, h := 0x40, l := 0x00 },
        mem := [(0x1000, 0xED), (0x1001, 0xAB), (0x4000, 0x81)] }
      (fun t => t.hl == 0x3FFF#16 && t.main.b == 0x04#8 && t.main.f == 0x13#8 && t.memptr == 0x0497#16 && decide
        (t.calls.contains (.writeIo 0x98 0x81)) && t.cycles == 16) = true := by
  decide

/-- OTIR, first of three (spec/95, T42.15). -/
theorem test_T42_15 :
    After
      { start with
        main := { start.main with b := 0x03, c := 0x98, h := 0x40, l := 0x00 },
        mem := [(0x1000, 0xED), (0x1001, 0xB3), (0x4000, 0x11)] }
      (fun t => t.pc == 0x1000#16 && t.hl == 0x4001#16 && t.main.b == 0x02#8 && t.main.f == 0x04#8 && decide
        (t.calls.contains (.writeIo 0x98 0x11)) && t.cycles == 21) = true := by
  decide

/-- INIR, B=0 (256 iterations) (spec/95, T42.16). -/
theorem test_T42_16 :
    After
      { start with
        main := { start.main with b := 0x00, c := 0x10, h := 0x40, l := 0x00 },
        ioAnswers := [0x00],
        mem := [(0x1000, 0xED), (0x1001, 0xB2)] }
      (fun t => t.pc == 0x1000#16 && t.main.b == 0xFF#8 && t.hl == 0x4001#16 && t.main.f == 0xA8#8 && t.cycles == 21)
        = true := by
  decide

/-- ADD A,B (source §8) (spec/95, T43.1). -/
theorem test_T43_1 :
    After { start with main := { start.main with a := 0x0F, b := 0x01 }, mem := [(0x1000, 0x80)] }
      (fun t => t.main.a == 0x10#8 && t.main.f == 0x10#8 && t.cycles == 4) = true := by
  decide

/-- ADD A,0x01 (signed overflow) (spec/95, T43.2). -/
theorem test_T43_2 :
    After { start with main := { start.main with a := 0x7F }, mem := [(0x1000, 0xC6), (0x1001, 0x01)] }
      (fun t => t.main.a == 0x80#8 && t.main.f == 0x94#8 && t.cycles == 7) = true := by
  decide

/-- ADD A,0x01 (carry, zero) (spec/95, T43.3). -/
theorem test_T43_3 :
    After { start with main := { start.main with a := 0xFF }, mem := [(0x1000, 0xC6), (0x1001, 0x01)] }
      (fun t => t.main.a == 0x00#8 && t.main.f == 0x51#8 && t.cycles == 7) = true := by
  decide

/-- ADC A,B (carry in) (spec/95, T43.4). -/
theorem test_T43_4 :
    After { start with main := { start.main with a := 0x0E, b := 0x01, f := 0x01 }, mem := [(0x1000, 0x88)] }
      (fun t => t.main.a == 0x10#8 && t.main.f == 0x10#8 && t.cycles == 4) = true := by
  decide

/-- ADC A,0x7F (carry in, overflow) (spec/95, T43.5). -/
theorem test_T43_5 :
    After
      { start with
        main := { start.main with a := 0x00, f := 0x01 },
        mem := [(0x1000, 0xCE), (0x1001, 0x7F)] }
      (fun t => t.main.a == 0x80#8 && t.main.f == 0x94#8 && t.cycles == 7) = true := by
  decide

/-- SUB B (equal) (spec/95, T43.6). -/
theorem test_T43_6 :
    After { start with main := { start.main with a := 0x42, b := 0x42 }, mem := [(0x1000, 0x90)] }
      (fun t => t.main.a == 0x00#8 && t.main.f == 0x42#8 && t.cycles == 4) = true := by
  decide

/-- SUB 0x01 (borrow) (spec/95, T43.7). -/
theorem test_T43_7 :
    After { start with main := { start.main with a := 0x00 }, mem := [(0x1000, 0xD6), (0x1001, 0x01)] }
      (fun t => t.main.a == 0xFF#8 && t.main.f == 0xBB#8 && t.cycles == 7) = true := by
  decide

/-- SBC A,0x01 (overflow) (spec/95, T43.8). -/
theorem test_T43_8 :
    After
      { start with
        main := { start.main with a := 0x80, f := 0x00 },
        mem := [(0x1000, 0xDE), (0x1001, 0x01)] }
      (fun t => t.main.a == 0x7F#8 && t.main.f == 0x3E#8 && t.cycles == 7) = true := by
  decide

/-- SBC A,A (carry in) (spec/95, T43.9). -/
theorem test_T43_9 :
    After { start with main := { start.main with a := 0x55, f := 0x01 }, mem := [(0x1000, 0x9F)] }
      (fun t => t.main.a == 0xFF#8 && t.main.f == 0xBB#8 && t.cycles == 4) = true := by
  decide

/-- AND 0x0F (spec/95, T43.10). -/
theorem test_T43_10 :
    After { start with main := { start.main with a := 0x3C }, mem := [(0x1000, 0xE6), (0x1001, 0x0F)] }
      (fun t => t.main.a == 0x0C#8 && t.main.f == 0x1C#8 && t.cycles == 7) = true := by
  decide

/-- XOR A (spec/95, T43.11). -/
theorem test_T43_11 :
    After { start with main := { start.main with a := 0x5A, f := 0xFF }, mem := [(0x1000, 0xAF)] }
      (fun t => t.main.a == 0x00#8 && t.main.f == 0x44#8 && t.cycles == 4) = true := by
  decide

/-- OR (HL) (spec/95, T43.12). -/
theorem test_T43_12 :
    After
      { start with
        main := { start.main with a := 0x80, h := 0x40, l := 0x00 },
        mem := [(0x1000, 0xB6), (0x4000, 0x01)] }
      (fun t => t.main.a == 0x81#8 && t.main.f == 0x84#8 && t.cycles == 7) = true := by
  decide

/-- CP 0x28 (Y/X from operand) (spec/95, T43.13). -/
theorem test_T43_13 :
    After { start with main := { start.main with a := 0x00 }, mem := [(0x1000, 0xFE), (0x1001, 0x28)] }
      (fun t => t.main.a == 0x00#8 && t.main.f == 0xBB#8 && t.cycles == 7) = true := by
  decide

/-- CP (IX+5) (spec/95, T43.14). -/
theorem test_T43_14 :
    After
      { start with
        main := { start.main with a := 0x10 },
        ix := 0x3FFB,
        mem := [(0x1000, 0xDD), (0x1001, 0xBE), (0x1002, 0x05), (0x4000, 0x10)] }
      (fun t => t.main.f == 0x42#8 && t.memptr == 0x4000#16 && t.cycles == 19) = true := by
  decide

/-- INC A (0x7F, overflow) (spec/95, T43.15). -/
theorem test_T43_15 :
    After { start with main := { start.main with a := 0x7F, f := 0x01 }, mem := [(0x1000, 0x3C)] }
      (fun t => t.main.a == 0x80#8 && t.main.f == 0x95#8 && t.cycles == 4) = true := by
  decide

/-- INC B (0xFF, C kept) (spec/95, T43.16). -/
theorem test_T43_16 :
    After { start with main := { start.main with b := 0xFF, f := 0x00 }, mem := [(0x1000, 0x04)] }
      (fun t => t.main.b == 0x00#8 && t.main.f == 0x50#8 && t.cycles == 4) = true := by
  decide

/-- DEC C (0x80, overflow) (spec/95, T43.17). -/
theorem test_T43_17 :
    After { start with main := { start.main with c := 0x80 }, mem := [(0x1000, 0x0D)] }
      (fun t => t.main.c == 0x7F#8 && t.main.f == 0x3E#8 && t.cycles == 4) = true := by
  decide

/-- DEC (HL) (0x01→0) (spec/95, T43.18). -/
theorem test_T43_18 :
    After
      { start with
        main := { start.main with h := 0x40, l := 0x00, f := 0x01 },
        mem := [(0x1000, 0x35), (0x4000, 0x01)] }
      (fun t => t.peek 0x4000#16 == 0x00#8 && t.main.f == 0x43#8 && t.cycles == 11) = true := by
  decide

/-- INC (IY+0) (spec/95, T43.19). -/
theorem test_T43_19 :
    After { start with iy := 0x4000, mem := [(0x1000, 0xFD), (0x1001, 0x34), (0x4000, 0x0F)] }
      (fun t => t.peek 0x4000#16 == 0x10#8 && t.main.f == 0x10#8 && t.memptr == 0x4000#16 && t.cycles == 23) = true :=
        by
  decide

/-- INC IXH (spec/95, T43.20). -/
theorem test_T43_20 :
    After { start with ix := 0xFF00, mem := [(0x1000, 0xDD), (0x1001, 0x24)] }
      (fun t => t.ix == 0x0000#16 && t.main.f == 0x50#8 && t.cycles == 8) = true := by
  decide

/-- DAA after 0x15+0x27 (spec/95, T43.21). -/
theorem test_T43_21 :
    After { start with main := { start.main with a := 0x3C, f := 0x00 }, mem := [(0x1000, 0x27)] }
      (fun t => t.main.a == 0x42#8 && t.main.f == 0x14#8 && t.cycles == 4) = true := by
  decide

/-- DAA after 0x10-0x01 (spec/95, T43.22). -/
theorem test_T43_22 :
    After { start with main := { start.main with a := 0x0F, f := 0x12 }, mem := [(0x1000, 0x27)] }
      (fun t => t.main.a == 0x09#8 && t.main.f == 0x0E#8 && t.cycles == 4) = true := by
  decide

/-- CPL (spec/95, T43.24). -/
theorem test_T43_24 :
    After { start with main := { start.main with a := 0x5A, f := 0x00 }, mem := [(0x1000, 0x2F)] }
      (fun t => t.main.a == 0xA5#8 && t.main.f == 0x32#8 && t.cycles == 4) = true := by
  decide

/-- NEG (0x80) (spec/95, T43.25). -/
theorem test_T43_25 :
    After { start with main := { start.main with a := 0x80 }, mem := [(0x1000, 0xED), (0x1001, 0x44)] }
      (fun t => t.main.a == 0x80#8 && t.main.f == 0x87#8 && t.cycles == 8) = true := by
  decide

/-- NEG (0x00) (spec/95, T43.26). -/
theorem test_T43_26 :
    After { start with main := { start.main with a := 0x00 }, mem := [(0x1000, 0xED), (0x1001, 0x44)] }
      (fun t => t.main.a == 0x00#8 && t.main.f == 0x42#8 && t.cycles == 8) = true := by
  decide

/-- NEG mirror ED 7C (0x01) (spec/95, T43.27). -/
theorem test_T43_27 :
    After { start with main := { start.main with a := 0x01 }, mem := [(0x1000, 0xED), (0x1001, 0x7C)] }
      (fun t => t.main.a == 0xFF#8 && t.main.f == 0xBB#8 && t.cycles == 8) = true := by
  decide

/-- SCF (spec/95, T43.28). -/
theorem test_T43_28 :
    After { start with main := { start.main with a := 0x28, f := 0xD6 }, mem := [(0x1000, 0x37)] }
      (fun t => t.main.f == 0xED#8 && t.cycles == 4) = true := by
  decide

/-- CCF (spec/95, T43.29). -/
theorem test_T43_29 :
    After { start with main := { start.main with a := 0x00, f := 0x01 }, mem := [(0x1000, 0x3F)] }
      (fun t => t.main.f == 0x10#8 && t.cycles == 4) = true := by
  decide

/-- ADD A,IXH (spec/95, T43.30). -/
theorem test_T43_30 :
    After
      { start with
        main := { start.main with a := 0x01 },
        ix := 0x7F00,
        mem := [(0x1000, 0xDD), (0x1001, 0x84)] }
      (fun t => t.main.a == 0x80#8 && t.main.f == 0x94#8 && t.cycles == 8) = true := by
  decide

/-- ADD HL,BC (carry from bit 11) (spec/95, T44.1). -/
theorem test_T44_1 :
    After
      { start with
        main := { start.main with h := 0x0F, l := 0xFF, b := 0x00, c := 0x01, f := 0xC4 },
        mem := [(0x1000, 0x09)] }
      (fun t => t.hl == 0x1000#16 && t.main.f == 0xD4#8 && t.memptr == 0x1000#16 && t.cycles == 11) = true := by
  decide

/-- ADD HL,HL (carry from bit 15) (spec/95, T44.2). -/
theorem test_T44_2 :
    After { start with main := { start.main with h := 0x80, l := 0x00 }, mem := [(0x1000, 0x29)] }
      (fun t => t.hl == 0x0000#16 && t.main.f == 0x01#8 && t.cycles == 11) = true := by
  decide

/-- ADD IX,SP (spec/95, T44.3). -/
theorem test_T44_3 :
    After { start with ix := 0x1000, sp := 0x2800, mem := [(0x1000, 0xDD), (0x1001, 0x39)] }
      (fun t => t.ix == 0x3800#16 && t.main.f == 0x28#8 && t.memptr == 0x1001#16 && t.cycles == 15) = true := by
  decide

/-- ADD IY,IY (spec/95, T44.4). -/
theorem test_T44_4 :
    After { start with iy := 0x4444, mem := [(0x1000, 0xFD), (0x1001, 0x29)] }
      (fun t => t.iy == 0x8888#16 && t.main.f == 0x08#8 && t.cycles == 15) = true := by
  decide

/-- ADC HL,DE (overflow) (spec/95, T44.5). -/
theorem test_T44_5 :
    After
      { start with
        main := { start.main with h := 0x7F, l := 0xFF, d := 0x00, e := 0x00, f := 0x01 },
        mem := [(0x1000, 0xED), (0x1001, 0x5A)] }
      (fun t => t.hl == 0x8000#16 && t.main.f == 0x94#8 && t.memptr == 0x8000#16 && t.cycles == 15) = true := by
  decide

/-- ADC HL,BC (zero) (spec/95, T44.6). -/
theorem test_T44_6 :
    After
      { start with
        main := { start.main with h := 0xFF, l := 0xFF, b := 0x00, c := 0x01 },
        mem := [(0x1000, 0xED), (0x1001, 0x4A)] }
      (fun t => t.hl == 0x0000#16 && t.main.f == 0x51#8 && t.cycles == 15) = true := by
  decide

/-- SBC HL,BC (equal) (spec/95, T44.7). -/
theorem test_T44_7 :
    After
      { start with
        main := { start.main with h := 0x12, l := 0x34, b := 0x12, c := 0x34 },
        mem := [(0x1000, 0xED), (0x1001, 0x42)] }
      (fun t => t.hl == 0x0000#16 && t.main.f == 0x42#8 && t.cycles == 15) = true := by
  decide

/-- SBC HL,DE (borrow) (spec/95, T44.8). -/
theorem test_T44_8 :
    After
      { start with
        main := { start.main with h := 0x00, l := 0x00, d := 0x00, e := 0x01 },
        mem := [(0x1000, 0xED), (0x1001, 0x52)] }
      (fun t => t.hl == 0xFFFF#16 && t.main.f == 0xBB#8 && t.cycles == 15) = true := by
  decide

/-- SBC HL,SP (overflow) (spec/95, T44.9). -/
theorem test_T44_9 :
    After
      { start with
        main := { start.main with h := 0x80, l := 0x00 },
        sp := 0x0001,
        mem := [(0x1000, 0xED), (0x1001, 0x72)] }
      (fun t => t.hl == 0x7FFF#16 && t.main.f == 0x3E#8 && t.cycles == 15) = true := by
  decide

/-- INC BC (wrap, flags kept) (spec/95, T44.10). -/
theorem test_T44_10 :
    After { start with main := { start.main with b := 0xFF, c := 0xFF, f := 0xFF }, mem := [(0x1000, 0x03)] }
      (fun t => t.bc == 0x0000#16 && t.main.f == 0xFF#8 && t.cycles == 6) = true := by
  decide

/-- DEC SP (spec/95, T44.11). -/
theorem test_T44_11 :
    After { start with sp := 0x0000, mem := [(0x1000, 0x3B)] }
      (fun t => t.sp == 0xFFFF#16 && t.cycles == 6) = true := by
  decide

/-- INC IX (spec/95, T44.12). -/
theorem test_T44_12 :
    After { start with ix := 0x00FF, mem := [(0x1000, 0xDD), (0x1001, 0x23)] }
      (fun t => t.ix == 0x0100#16 && t.cycles == 10) = true := by
  decide

/-- DEC IY (spec/95, T44.13). -/
theorem test_T44_13 :
    After { start with iy := 0x0000, mem := [(0x1000, 0xFD), (0x1001, 0x2B)] }
      (fun t => t.iy == 0xFFFF#16 && t.cycles == 10) = true := by
  decide

/-- RLCA (spec/95, T45.1). -/
theorem test_T45_1 :
    After { start with main := { start.main with a := 0x81, f := 0xC4 }, mem := [(0x1000, 0x07)] }
      (fun t => t.main.a == 0x03#8 && t.main.f == 0xC5#8 && t.cycles == 4) = true := by
  decide

/-- RRCA (spec/95, T45.2). -/
theorem test_T45_2 :
    After { start with main := { start.main with a := 0x01 }, mem := [(0x1000, 0x0F)] }
      (fun t => t.main.a == 0x80#8 && t.main.f == 0x01#8 && t.cycles == 4) = true := by
  decide

/-- RLA (spec/95, T45.3). -/
theorem test_T45_3 :
    After { start with main := { start.main with a := 0x80, f := 0x00 }, mem := [(0x1000, 0x17)] }
      (fun t => t.main.a == 0x00#8 && t.main.f == 0x01#8 && t.cycles == 4) = true := by
  decide

/-- RRA (spec/95, T45.4). -/
theorem test_T45_4 :
    After { start with main := { start.main with a := 0x01, f := 0x01 }, mem := [(0x1000, 0x1F)] }
      (fun t => t.main.a == 0x80#8 && t.main.f == 0x01#8 && t.cycles == 4) = true := by
  decide

/-- RLC B (spec/95, T45.5). -/
theorem test_T45_5 :
    After { start with main := { start.main with b := 0x80 }, mem := [(0x1000, 0xCB)] }
      (fun t => t.main.b == 0x01#8 && t.main.f == 0x01#8 && t.cycles == 8) = true := by
  decide

/-- RRC C (spec/95, T45.6). -/
theorem test_T45_6 :
    After { start with main := { start.main with c := 0x00 }, mem := [(0x1000, 0xCB), (0x1001, 0x09)] }
      (fun t => t.main.c == 0x00#8 && t.main.f == 0x44#8 && t.cycles == 8) = true := by
  decide

/-- RL D (carry in) (spec/95, T45.7). -/
theorem test_T45_7 :
    After
      { start with
        main := { start.main with d := 0x7F, f := 0x01 },
        mem := [(0x1000, 0xCB), (0x1001, 0x12)] }
      (fun t => t.main.d == 0xFF#8 && t.main.f == 0xAC#8 && t.cycles == 8) = true := by
  decide

/-- RR (HL) (spec/95, T45.8). -/
theorem test_T45_8 :
    After
      { start with
        main := { start.main with h := 0x40, l := 0x00 },
        mem := [(0x1000, 0xCB), (0x1001, 0x1E), (0x4000, 0x01)] }
      (fun t => t.peek 0x4000#16 == 0x00#8 && t.main.f == 0x45#8 && t.cycles == 15) = true := by
  decide

/-- SLA A (0x80) (spec/95, T45.9). -/
theorem test_T45_9 :
    After { start with main := { start.main with a := 0x80 }, mem := [(0x1000, 0xCB), (0x1001, 0x27)] }
      (fun t => t.main.a == 0x00#8 && t.main.f == 0x45#8 && t.cycles == 8) = true := by
  decide

/-- SRA E (0x81) (spec/95, T45.10). -/
theorem test_T45_10 :
    After { start with main := { start.main with e := 0x81 }, mem := [(0x1000, 0xCB), (0x1001, 0x2B)] }
      (fun t => t.main.e == 0xC0#8 && t.main.f == 0x85#8 && t.cycles == 8) = true := by
  decide

/-- SLL H (0x00) (spec/95, T45.11). -/
theorem test_T45_11 :
    After { start with main := { start.main with h := 0x00 }, mem := [(0x1000, 0xCB), (0x1001, 0x34)] }
      (fun t => t.main.h == 0x01#8 && t.main.f == 0x00#8 && t.cycles == 8) = true := by
  decide

/-- SRL L (0x01) (spec/95, T45.12). -/
theorem test_T45_12 :
    After { start with main := { start.main with l := 0x01 }, mem := [(0x1000, 0xCB), (0x1001, 0x3D)] }
      (fun t => t.main.l == 0x00#8 && t.main.f == 0x45#8 && t.cycles == 8) = true := by
  decide

/-- RLC (IX+2) (spec/95, T45.13). -/
theorem test_T45_13 :
    After
      { start with
        ix := 0x3FFE,
        mem := [(0x1000, 0xDD), (0x1001, 0xCB), (0x1002, 0x02), (0x1003, 0x06), (0x4000, 0x88)] }
      (fun t => t.peek 0x4000#16 == 0x11#8 && t.main.f == 0x05#8 && t.memptr == 0x4000#16 && t.cycles == 23) = true :=
        by
  decide

/-- RLC (IX+2),B (copy) (spec/95, T45.14). -/
theorem test_T45_14 :
    After
      { start with
        ix := 0x3FFE,
        mem := [(0x1000, 0xDD), (0x1001, 0xCB), (0x1002, 0x02), (0x4000, 0x88)] }
      (fun t => t.peek 0x4000#16 == 0x11#8 && t.main.b == 0x11#8 && t.main.f == 0x05#8 && t.cycles == 23) = true := by
  decide

/-- SRL (IY-1),A (copy) (spec/95, T45.15). -/
theorem test_T45_15 :
    After
      { start with
        iy := 0x4001,
        mem := [(0x1000, 0xFD), (0x1001, 0xCB), (0x1002, 0xFF), (0x1003, 0x3F), (0x4000, 0x03)] }
      (fun t => t.peek 0x4000#16 == 0x01#8 && t.main.a == 0x01#8 && t.main.f == 0x01#8 && t.cycles == 23) = true := by
  decide

/-- RLD (spec/95, T45.16). -/
theorem test_T45_16 :
    After
      { start with
        main := { start.main with a := 0x12, h := 0x40, l := 0x00, f := 0x01 },
        mem := [(0x1000, 0xED), (0x1001, 0x6F), (0x4000, 0x34)] }
      (fun t => t.main.a == 0x13#8 && t.peek 0x4000#16 == 0x42#8 && t.main.f == 0x01#8 && t.memptr == 0x4001#16 &&
        t.cycles == 18) = true := by
  decide

/-- RRD (spec/95, T45.17). -/
theorem test_T45_17 :
    After
      { start with
        main := { start.main with a := 0x12, h := 0x40, l := 0x00 },
        mem := [(0x1000, 0xED), (0x1001, 0x67), (0x4000, 0x34)] }
      (fun t => t.main.a == 0x14#8 && t.peek 0x4000#16 == 0x23#8 && t.main.f == 0x04#8 && t.memptr == 0x4001#16 &&
        t.cycles == 18) = true := by
  decide

/-- RRD (A high nibble 8, zero low) (spec/95, T45.18). -/
theorem test_T45_18 :
    After
      { start with
        main := { start.main with a := 0x80, h := 0x40, l := 0x00 },
        mem := [(0x1000, 0xED), (0x1001, 0x67)] }
      (fun t => t.main.a == 0x80#8 && t.peek 0x4000#16 == 0x00#8 && t.main.f == 0x80#8 && t.cycles == 18) = true := by
  decide

/-- BIT 7,B (spec/95, T46.1). -/
theorem test_T46_1 :
    After
      { start with
        main := { start.main with b := 0x80, f := 0x01 },
        mem := [(0x1000, 0xCB), (0x1001, 0x78)] }
      (fun t => t.main.f == 0x91#8 && t.cycles == 8) = true := by
  decide

/-- BIT 0,B (Y/X from B) (spec/95, T46.2). -/
theorem test_T46_2 :
    After { start with main := { start.main with b := 0x28 }, mem := [(0x1000, 0xCB), (0x1001, 0x40)] }
      (fun t => t.main.f == 0x7C#8 && t.cycles == 8) = true := by
  decide

/-- BIT 0,(HL) (Y/X from MEMPTR) (spec/95, T46.3). -/
theorem test_T46_3 :
    After
      { start with
        main := { start.main with h := 0x40, l := 0x00 },
        memptr := 0x2800,
        mem := [(0x1000, 0xCB), (0x1001, 0x46)] }
      (fun t => t.main.f == 0x7C#8 && t.cycles == 12) = true := by
  decide

/-- BIT 7,(IX+1) (spec/95, T46.4). -/
theorem test_T46_4 :
    After
      { start with
        ix := 0x27FF,
        mem := [(0x1000, 0xDD), (0x1001, 0xCB), (0x1002, 0x01), (0x1003, 0x7E), (0x2800, 0x80)] }
      (fun t => t.main.f == 0xB8#8 && t.memptr == 0x2800#16 && t.cycles == 20) = true := by
  decide

/-- BIT 3,(IY+0) via z=0 (undocumented) (spec/95, T46.5). -/
theorem test_T46_5 :
    After
      { start with
        main := { start.main with b := 0x77 },
        iy := 0x4000,
        mem := [(0x1000, 0xFD), (0x1001, 0xCB), (0x1003, 0x58), (0x4000, 0x08)] }
      (fun t => t.main.f == 0x10#8 && t.main.b == 0x77#8 && t.cycles == 20) = true := by
  decide

/-- SET 0,A (spec/95, T46.6). -/
theorem test_T46_6 :
    After
      { start with
        main := { start.main with a := 0x00, f := 0x55 },
        mem := [(0x1000, 0xCB), (0x1001, 0xC7)] }
      (fun t => t.main.a == 0x01#8 && t.main.f == 0x55#8 && t.cycles == 8) = true := by
  decide

/-- SET 7,(HL) (spec/95, T46.7). -/
theorem test_T46_7 :
    After
      { start with
        main := { start.main with h := 0x40, l := 0x00 },
        mem := [(0x1000, 0xCB), (0x1001, 0xFE)] }
      (fun t => t.peek 0x4000#16 == 0x80#8 && t.cycles == 15) = true := by
  decide

/-- SET 2,(IY+3),B (copy) (spec/95, T46.8). -/
theorem test_T46_8 :
    After
      { start with
        main := { start.main with b := 0x55 },
        iy := 0x4000,
        mem := [(0x1000, 0xFD), (0x1001, 0xCB), (0x1002, 0x03), (0x1003, 0xD0)] }
      (fun t => t.peek 0x4003#16 == 0x04#8 && t.main.b == 0x04#8 && t.cycles == 23) = true := by
  decide

/-- RES 0,A (spec/95, T46.9). -/
theorem test_T46_9 :
    After { start with main := { start.main with a := 0xFF }, mem := [(0x1000, 0xCB), (0x1001, 0x87)] }
      (fun t => t.main.a == 0xFE#8 && t.cycles == 8) = true := by
  decide

/-- RES 7,(HL) (spec/95, T46.10). -/
theorem test_T46_10 :
    After
      { start with
        main := { start.main with h := 0x40, l := 0x00 },
        mem := [(0x1000, 0xCB), (0x1001, 0xBE), (0x4000, 0xFF)] }
      (fun t => t.peek 0x4000#16 == 0x7F#8 && t.cycles == 15) = true := by
  decide

/-- RES 1,(IX+0),A (copy) (spec/95, T46.11). -/
theorem test_T46_11 :
    After
      { start with
        ix := 0x4000,
        mem := [(0x1000, 0xDD), (0x1001, 0xCB), (0x1003, 0x8F), (0x4000, 0xFF)] }
      (fun t => t.peek 0x4000#16 == 0xFD#8 && t.main.a == 0xFD#8 && t.cycles == 23) = true := by
  decide

/-- JP 0x1234 (spec/95, T47.1). -/
theorem test_T47_1 :
    After { start with mem := [(0x1000, 0xC3), (0x1001, 0x34), (0x1002, 0x12)] }
      (fun t => t.pc == 0x1234#16 && t.memptr == 0x1234#16 && t.cycles == 10) = true := by
  decide

/-- JP NZ,0x2000 (not taken) (spec/95, T47.2). -/
theorem test_T47_2 :
    After { start with main := { start.main with f := 0x40 }, mem := [(0x1000, 0xC2), (0x1002, 0x20)] }
      (fun t => t.pc == 0x1003#16 && t.memptr == 0x2000#16 && t.cycles == 10) = true := by
  decide

/-- JP PE,0x2000 (taken) (spec/95, T47.3). -/
theorem test_T47_3 :
    After { start with main := { start.main with f := 0x04 }, mem := [(0x1000, 0xEA), (0x1002, 0x20)] }
      (fun t => t.pc == 0x2000#16 && t.cycles == 10) = true := by
  decide

/-- JP M,0x2000 (not taken) (spec/95, T47.4). -/
theorem test_T47_4 :
    After { start with main := { start.main with f := 0x00 }, mem := [(0x1000, 0xFA), (0x1002, 0x20)] }
      (fun t => t.pc == 0x1003#16 && t.cycles == 10) = true := by
  decide

/-- JR 0x10 (spec/95, T47.5). -/
theorem test_T47_5 :
    After { start with mem := [(0x1000, 0x18), (0x1001, 0x10)] }
      (fun t => t.pc == 0x1012#16 && t.memptr == 0x1012#16 && t.cycles == 12) = true := by
  decide

/-- JR -2 (to itself) (spec/95, T47.6). -/
theorem test_T47_6 :
    After { start with mem := [(0x1000, 0x18), (0x1001, 0xFE)] }
      (fun t => t.pc == 0x1000#16 && t.cycles == 12) = true := by
  decide

/-- JR C,-3 (taken) (spec/95, T47.7). -/
theorem test_T47_7 :
    After { start with main := { start.main with f := 0x01 }, mem := [(0x1000, 0x38), (0x1001, 0xFD)] }
      (fun t => t.pc == 0x0FFF#16 && t.cycles == 12) = true := by
  decide

/-- JR NC,+5 (not taken) (spec/95, T47.8). -/
theorem test_T47_8 :
    After
      { start with
        main := { start.main with f := 0x01 },
        memptr := 0xAAAA,
        mem := [(0x1000, 0x30), (0x1001, 0x05)] }
      (fun t => t.pc == 0x1002#16 && t.memptr == 0xAAAA#16 && t.cycles == 7) = true := by
  decide

/-- JP (HL) (spec/95, T47.9). -/
theorem test_T47_9 :
    After { start with main := { start.main with h := 0x40, l := 0x00 }, mem := [(0x1000, 0xE9)] }
      (fun t => t.pc == 0x4000#16 && t.cycles == 4) = true := by
  decide

/-- JP (IY) (spec/95, T47.10). -/
theorem test_T47_10 :
    After { start with iy := 0x8000, mem := [(0x1000, 0xFD), (0x1001, 0xE9)] }
      (fun t => t.pc == 0x8000#16 && t.cycles == 8) = true := by
  decide

/-- DJNZ -2 (B 2→1) (spec/95, T47.11). -/
theorem test_T47_11 :
    After { start with main := { start.main with b := 0x02 }, mem := [(0x1000, 0x10), (0x1001, 0xFE)] }
      (fun t => t.main.b == 0x01#8 && t.pc == 0x1000#16 && t.cycles == 13) = true := by
  decide

/-- DJNZ -2 (B 1→0) (spec/95, T47.12). -/
theorem test_T47_12 :
    After { start with main := { start.main with b := 0x01 }, mem := [(0x1000, 0x10), (0x1001, 0xFE)] }
      (fun t => t.main.b == 0x00#8 && t.pc == 0x1002#16 && t.cycles == 8) = true := by
  decide

/-- CALL 0x2000 (spec/95, T47.14). -/
theorem test_T47_14 :
    After { start with mem := [(0x1000, 0xCD), (0x1002, 0x20)] }
      (fun t => t.pc == 0x2000#16 && t.sp == 0x7FFE#16 && t.peek 0x7FFF#16 == 0x10#8 && t.peek 0x7FFE#16 == 0x03#8 &&
        t.memptr == 0x2000#16 && t.cycles == 17) = true := by
  decide

/-- CALL Z,0x2000 (not taken) (spec/95, T47.15). -/
theorem test_T47_15 :
    After { start with main := { start.main with f := 0x00 }, mem := [(0x1000, 0xCC), (0x1002, 0x20)] }
      (fun t => t.pc == 0x1003#16 && t.sp == 0x8000#16 && t.cycles == 10) = true := by
  decide

/-- RET (spec/95, T47.16). -/
theorem test_T47_16 :
    After { start with sp := 0x7FFE, mem := [(0x1000, 0xC9), (0x7FFE, 0x03), (0x7FFF, 0x10)] }
      (fun t => t.pc == 0x1003#16 && t.sp == 0x8000#16 && t.memptr == 0x1003#16 && t.cycles == 10) = true := by
  decide

/-- RET NC (not taken) (spec/95, T47.17). -/
theorem test_T47_17 :
    After { start with main := { start.main with f := 0x01 }, mem := [(0x1000, 0xD0)] }
      (fun t => t.pc == 0x1001#16 && t.sp == 0x8000#16 && t.cycles == 5) = true := by
  decide

/-- RET P (taken) (spec/95, T47.18). -/
theorem test_T47_18 :
    After
      { start with
        main := { start.main with f := 0x00 },
        sp := 0x7FFE,
        mem := [(0x1000, 0xF0), (0x7FFF, 0x30)] }
      (fun t => t.pc == 0x3000#16 && t.sp == 0x8000#16 && t.cycles == 11) = true := by
  decide

/-- RETI (spec/95, T47.19). -/
theorem test_T47_19 :
    After
      { start with
        sp := 0x7FFE,
        iff1 := false,
        iff2 := true,
        mem := [(0x1000, 0xED), (0x1001, 0x4D), (0x7FFF, 0x20)] }
      (fun t => t.pc == 0x2000#16 && t.iff1 == true && t.iff2 == true && t.cycles == 14) = true := by
  decide

/-- RETN mirror ED 55 (spec/95, T47.20). -/
theorem test_T47_20 :
    After
      { start with
        sp := 0x7FFE,
        iff1 := false,
        iff2 := false,
        mem := [(0x1000, 0xED), (0x1001, 0x55), (0x7FFF, 0x20)] }
      (fun t => t.pc == 0x2000#16 && t.iff1 == false && t.cycles == 14) = true := by
  decide

/-- RST 0x28 (spec/95, T47.21). -/
theorem test_T47_21 :
    After { start with mem := [(0x1000, 0xEF)] }
      (fun t => t.pc == 0x0028#16 && t.sp == 0x7FFE#16 && t.peek 0x7FFF#16 == 0x10#8 && t.peek 0x7FFE#16 == 0x01#8 &&
        t.cycles == 11) = true := by
  decide

/-- CALL at SP=0x0001 (wrap) (spec/95, T47.22). -/
theorem test_T47_22 :
    After { start with sp := 0x0001, mem := [(0x1000, 0xCD), (0x1002, 0x20)] }
      (fun t => t.sp == 0xFFFF#16 && t.peek 0x0000#16 == 0x10#8 && t.peek 0xFFFF#16 == 0x03#8 && t.cycles == 17) =
        true := by
  decide

/-- IN A,(0xA8) (spec/95, T48.1). -/
theorem test_T48_1 :
    After
      { start with
        main := { start.main with a := 0x12, f := 0xFF },
        ioAnswers := [0x5C],
        mem := [(0x1000, 0xDB), (0x1001, 0xA8)] }
      (fun t => t.main.a == 0x5C#8 && t.main.f == 0xFF#8 && t.memptr == 0x12A9#16 && t.cycles == 11) = true := by
  decide

/-- IN A,(C) (zero) (spec/95, T48.2). -/
theorem test_T48_2 :
    After
      { start with
        main := { start.main with b := 0x12, c := 0x34, f := 0x01 },
        ioAnswers := [0x00],
        mem := [(0x1000, 0xED), (0x1001, 0x78)] }
      (fun t => t.main.a == 0x00#8 && t.main.f == 0x45#8 && t.memptr == 0x1235#16 && t.cycles == 12) = true := by
  decide

/-- IN D,(C) (spec/95, T48.3). -/
theorem test_T48_3 :
    After
      { start with
        main := { start.main with b := 0x12, c := 0x34 },
        ioAnswers := [0x81],
        mem := [(0x1000, 0xED), (0x1001, 0x50)] }
      (fun t => t.main.d == 0x81#8 && t.main.f == 0x84#8 && t.cycles == 12) = true := by
  decide

/-- IN F,(C) (spec/95, T48.4). -/
theorem test_T48_4 :
    After
      { start with
        main := { start.main with b := 0x00, c := 0x10, f := 0x01, a := 0x77 },
        ioAnswers := [0xA8],
        mem := [(0x1000, 0xED), (0x1001, 0x70)] }
      (fun t => t.main.a == 0x77#8 && t.main.f == 0xA9#8 && t.cycles == 12) = true := by
  decide

/-- OUT (0xFF),A (spec/95, T48.5). -/
theorem test_T48_5 :
    After { start with main := { start.main with a := 0x01 }, mem := [(0x1000, 0xD3), (0x1001, 0xFF)] }
      (fun t => t.memptr == 0x0100#16 && decide (t.calls.contains (.writeIo 0xFF 0x01)) && t.cycles == 11) = true :=
        by
  decide

/-- OUT (C),A (spec/95, T48.6). -/
theorem test_T48_6 :
    After
      { start with
        main := { start.main with b := 0x12, c := 0xFF, a := 0x33 },
        mem := [(0x1000, 0xED), (0x1001, 0x79)] }
      (fun t => t.memptr == 0x1300#16 && decide (t.calls.contains (.writeIo 0xFF 0x33)) && t.cycles == 12) = true :=
        by
  decide

/-- OUT (C),0 (spec/95, T48.7). -/
theorem test_T48_7 :
    After
      { start with
        main := { start.main with b := 0x00, c := 0x98 },
        mem := [(0x1000, 0xED), (0x1001, 0x71)] }
      (fun t => t.memptr == 0x0099#16 && decide (t.calls.contains (.writeIo 0x98 0x00)) && t.cycles == 12) = true :=
        by
  decide

/-- IN C,(C) (spec/95, T48.8). -/
theorem test_T48_8 :
    After
      { start with
        main := { start.main with b := 0x05, c := 0x10 },
        ioAnswers := [0x00],
        mem := [(0x1000, 0xED), (0x1001, 0x48)] }
      (fun t => t.bc == 0x0500#16 && t.memptr == 0x0511#16 && t.main.f == 0x44#8 && t.cycles == 12) = true := by
  decide

/-- NOP (spec/95, T49.1). -/
theorem test_T49_1 :
    After { start with r := 0x05 }
      (fun t => t.pc == 0x1001#16 && t.r == 0x06#8 && t.cycles == 4) = true := by
  decide

/-- DI (spec/95, T49.3). -/
theorem test_T49_3 :
    After { start with iff1 := true, iff2 := true, mem := [(0x1000, 0xF3)] }
      (fun t => t.iff1 == false && t.iff2 == false && t.cycles == 4) = true := by
  decide

/-- EI (spec/95, T49.4). -/
theorem test_T49_4 :
    After { start with mem := [(0x1000, 0xFB)] }
      (fun t => t.iff1 == true && t.iff2 == true && t.eiDelay == true && t.cycles == 4) = true := by
  decide

/-- IM 2 (spec/95, T49.5). -/
theorem test_T49_5 :
    After { start with mem := [(0x1000, 0xED), (0x1001, 0x5E)] }
      (fun t => decide (t.im = .im2) && t.cycles == 8) = true := by
  decide

/-- IM mirror ED 6E (spec/95, T49.6). -/
theorem test_T49_6 :
    After { start with im := .im2, mem := [(0x1000, 0xED), (0x1001, 0x6E)] }
      (fun t => decide (t.im = .im0) && t.cycles == 8) = true := by
  decide

/-- IM mirror ED 76 (spec/95, T49.7). -/
theorem test_T49_7 :
    After { start with mem := [(0x1000, 0xED), (0x1001, 0x76)] }
      (fun t => decide (t.im = .im1) && t.halted == false && t.cycles == 8) = true := by
  decide

/-- ED NOP* (ED 00) (spec/95, T49.8). -/
theorem test_T49_8 :
    After { start with r := 0x00, mem := [(0x1000, 0xED)] }
      (fun t => t.pc == 0x1002#16 && t.r == 0x02#8 && t.cycles == 8) = true := by
  decide

/-- ED NOP* (ED FD) (spec/95, T49.9). -/
theorem test_T49_9 :
    After { start with r := 0x00, mem := [(0x1000, 0xED), (0x1001, 0xFD)] }
      (fun t => t.pc == 0x1002#16 && t.r == 0x02#8 && t.cycles == 8) = true := by
  decide

/-- DD 00 (ignored prefix) (spec/95, T49.10). -/
theorem test_T49_10 :
    After { start with r := 0x00, mem := [(0x1000, 0xDD)] }
      (fun t => t.pc == 0x1002#16 && t.r == 0x02#8 && t.cycles == 8) = true := by
  decide

/-- DD 3E 05 (ignored prefix) (spec/95, T49.11). -/
theorem test_T49_11 :
    After { start with r := 0x00, mem := [(0x1000, 0xDD), (0x1001, 0x3E), (0x1002, 0x05)] }
      (fun t => t.main.a == 0x05#8 && t.pc == 0x1003#16 && t.r == 0x02#8 && t.cycles == 11) = true := by
  decide

/-- DD CB d op: R+2 (spec/95, T49.14). -/
theorem test_T49_14 :
    After { start with ix := 0x4000, r := 0x00, mem := [(0x1000, 0xDD), (0x1001, 0xCB), (0x1003, 0x46)] }
      (fun t => t.pc == 0x1004#16 && t.r == 0x02#8 && t.main.f == 0x54#8 && t.cycles == 20) = true := by
  decide

/-- DD ED 4A (ignored prefix before ED): R+3 (spec/95, T49.15). -/
theorem test_T49_15 :
    After
      { start with
        main := { start.main with h := 0x00, l := 0x01, b := 0x00, c := 0x01 },
        r := 0x00,
        mem := [(0x1000, 0xDD), (0x1001, 0xED), (0x1002, 0x4A)] }
      (fun t => t.hl == 0x0002#16 && t.pc == 0x1003#16 && t.r == 0x03#8 && t.cycles == 19) = true := by
  decide

/-- fetch wraps at 0xFFFF (spec/95, T49.16). -/
theorem test_T49_16 :
    After { start with pc := 0xFFFF, mem := [(0x0000, 0x99), (0xFFFF, 0x3E)] }
      (fun t => t.main.a == 0x99#8 && t.pc == 0x0001#16 && t.cycles == 7) = true := by
  decide

/-- IM1, level from poll_pending (spec/95, T60.1). -/
theorem test_T60_1 :
    After { start with iff1 := true, iff2 := true, im := .im1, pollAnswers := [true] }
      (fun t => t.pc == 0x0038#16 && t.sp == 0x7FFE#16 && t.peek 0x7FFF#16 == 0x10#8 && t.peek 0x7FFE#16 == 0x00#8 &&
        t.iff1 == false && t.iff2 == false && t.memptr == 0x0038#16 && t.r == 0x01#8 && t.cycles == 13) = true
        := by
  decide

/-- IM1, latched request_interrupt (spec/95, T60.2). -/
theorem test_T60_2 :
    After { start with iff1 := true, iff2 := true, im := .im1, intLatch := true }
      (fun t => t.pc == 0x0038#16 && t.intLatch == false && t.cycles == 13) = true := by
  decide

/-- IM0 (IM0_VECTOR=0x0038) (spec/95, T60.3). -/
theorem test_T60_3 :
    After { start with iff1 := true, iff2 := true, im := .im0, pollAnswers := [true] }
      (fun t => t.pc == 0x0038#16 && t.sp == 0x7FFE#16 && t.cycles == 13) = true := by
  decide

/-- IM2 table read (spec/95, T60.4). -/
theorem test_T60_4 :
    After
      { start with
        iff1 := true,
        iff2 := true,
        im := .im2,
        i := 0x20,
        pollAnswers := [true],
        vectorAnswers := [0xFE],
        mem := [(0x20FF, 0x30)] }
      (fun t => t.pc == 0x3000#16 && t.sp == 0x7FFE#16 && t.memptr == 0x3000#16 && t.iff1 == false && t.cycles == 19)
        = true := by
  decide

/-- IM2, odd vector byte (spec/95, T60.5). -/
theorem test_T60_5 :
    After
      { start with
        iff1 := true,
        im := .im2,
        i := 0x20,
        pollAnswers := [true],
        vectorAnswers := [0xFF],
        mem := [(0x2100, 0x40)] }
      (fun t => t.pc == 0x4000#16 && t.cycles == 19) = true := by
  decide

/-- IM2, table address wraps (spec/95, T60.6). -/
theorem test_T60_6 :
    After
      { start with
        iff1 := true,
        im := .im2,
        i := 0xFF,
        pollAnswers := [true],
        vectorAnswers := [0xFF],
        mem := [(0x0000, 0x12), (0xFFFF, 0x34)] }
      (fun t => t.pc == 0x1234#16 && t.cycles == 19) = true := by
  decide

/-- IFF1=0: request not taken, stays latched (spec/95, T60.7). -/
theorem test_T60_7 :
    After { start with iff1 := false, im := .im1, intLatch := true }
      (fun t => t.pc == 0x1001#16 && t.intLatch == true && t.cycles == 4) = true := by
  decide

/-- IFF1=0: level request not taken (spec/95, T60.8). -/
theorem test_T60_8 :
    After { start with iff1 := false, im := .im1, pollAnswers := [true] }
      (fun t => t.pc == 0x1001#16 && t.intLatch == false && t.cycles == 4) = true := by
  decide

/-- EI delay: instruction after EI runs first (spec/95, T60.9). -/
theorem test_T60_9 :
    After { start with iff1 := true, iff2 := true, im := .im1, eiDelay := true, pollAnswers := [true] }
      (fun t => t.pc == 0x1001#16 && t.eiDelay == false && t.iff1 == true && t.cycles == 4) = true := by
  decide

/-- pending_prefix defers acceptance (spec/95, T60.11). -/
theorem test_T60_11 :
    After
      { start with
        iff1 := true,
        im := .im1,
        pollAnswers := [true],
        pendingPrefix := some .ix,
        mem := [(0x1000, 0x21), (0x1001, 0x34), (0x1002, 0x12)] }
      (fun t => t.ix == 0x1234#16 && t.pc == 0x1003#16 && t.pendingPrefix.isNone && t.cycles == 10) = true := by
  decide

/-- NMI (spec/95, T60.12). -/
theorem test_T60_12 :
    After { start with iff1 := true, iff2 := true, nmiLatch := true }
      (fun t => t.pc == 0x0066#16 && t.sp == 0x7FFE#16 && t.peek 0x7FFF#16 == 0x10#8 && t.peek 0x7FFE#16 == 0x00#8 &&
        t.iff1 == false && t.iff2 == true && t.nmiLatch == false && t.memptr == 0x0066#16 && t.cycles == 11) =
        true := by
  decide

/-- NMI with IFF1=0 (spec/95, T60.13). -/
theorem test_T60_13 :
    After { start with iff1 := false, iff2 := false, nmiLatch := true }
      (fun t => t.pc == 0x0066#16 && t.iff1 == false && t.iff2 == false && t.cycles == 11) = true := by
  decide

/-- NMI and maskable together: NMI first (spec/95, T60.14). -/
theorem test_T60_14 :
    After { start with iff1 := true, iff2 := true, im := .im1, nmiLatch := true, intLatch := true }
      (fun t => t.pc == 0x0066#16 && t.intLatch == true && t.nmiLatch == false && t.iff1 == false && t.cycles == 11) =
        true := by
  decide

/-- NMI not inhibited by EI delay (spec/95, T60.15). -/
theorem test_T60_15 :
    After { start with iff1 := true, iff2 := true, eiDelay := true, nmiLatch := true }
      (fun t => t.pc == 0x0066#16 && t.eiDelay == false && t.cycles == 11) = true := by
  decide

/-- NMI deferred by pending_prefix (spec/95, T60.16). -/
theorem test_T60_16 :
    After
      { start with
        nmiLatch := true,
        pendingPrefix := some .iy,
        mem := [(0x1000, 0x21), (0x1001, 0x34), (0x1002, 0x12)] }
      (fun t => t.iy == 0x1234#16 && t.pc == 0x1003#16 && t.nmiLatch == true && t.cycles == 10) = true := by
  decide

/-- halted, maskable accepted (spec/95, T60.17). -/
theorem test_T60_17 :
    After
      { start with
        pc := 0x1001,
        halted := true,
        iff1 := true,
        iff2 := true,
        im := .im1,
        pollAnswers := [true],
        mem := [(0x1000, 0x76)] }
      (fun t => t.pc == 0x0038#16 && t.halted == false && t.peek 0x7FFF#16 == 0x10#8 && t.peek 0x7FFE#16 == 0x01#8 &&
        t.cycles == 13) = true := by
  decide

/-- halted, IFF1=0: stays halted (spec/95, T60.18). -/
theorem test_T60_18 :
    After
      { start with
        pc := 0x1001,
        halted := true,
        iff1 := false,
        im := .im1,
        pollAnswers := [true],
        r := 0x10,
        mem := [(0x1000, 0x76)] }
      (fun t => t.pc == 0x1001#16 && t.halted == true && t.r == 0x11#8 && t.cycles == 4) = true := by
  decide

/-- halted, NMI accepted (spec/95, T60.19). -/
theorem test_T60_19 :
    After { start with pc := 0x1001, halted := true, nmiLatch := true, mem := [(0x1000, 0x76)] }
      (fun t => t.pc == 0x0066#16 && t.halted == false && t.peek 0x7FFE#16 == 0x01#8 && t.cycles == 11) = true := by
  decide

/-- acceptance increments R (7-bit wrap) (spec/95, T60.20). -/
theorem test_T60_20 :
    After { start with iff1 := true, im := .im1, pollAnswers := [true], r := 0xFF }
      (fun t => t.r == 0x80#8 && t.cycles == 13) = true := by
  decide

end

end Sys2Proof.Tests
end

