-- ==== Sys2Proof/Tests/Slice0.lean ====
section
/-! SUPPORT. Ill-formed terms that the well-formedness check refuses; steps that spec/95 has no vector for; and, for every
statement with hypotheses, states and operands that meet them together. -/

namespace Sys2Proof.Tests

open Sys2Proof.Machine

set_option maxRecDepth 20000

/-! Well-formedness: one ill-formed term for each check, beside a well-formed one. -/

theorem test_wf_nopStar : (Instr.nopStar 0x44).wf = false ∧ (Instr.nopStar 0xFF).wf = true := by decide
theorem test_wf_retn : (Instr.retn 1).wf = false ∧ (Instr.retn 7).wf = true := by decide
theorem test_wf_im0 : (Instr.im0 2).wf = false ∧ (Instr.im0 5).wf = true := by decide
theorem test_wf_im1 : (Instr.im1 3).wf = false ∧ (Instr.im1 6).wf = true := by decide
theorem test_wf_im2 : (Instr.im2 1).wf = false ∧ (Instr.im2 7).wf = true := by decide
theorem test_wf_ignoredEd :
    (Instr.ignoredEd .ix (.nopStar 0xB0)).wf = false ∧ (Instr.ignoredEd .iy (.im .im1 0)).wf = false ∧
      (Instr.ignoredEd .ix (.retn 1)).wf = false ∧ (Instr.ignoredEd .iy (.nopStar 0x77)).wf = true := by decide

/-- The bit pattern of the table is read as stored: the first byte in bits 7..0 (DD CB 00 06 is RLC (IX+0)). -/
theorem test_table_word : decodeTableWord 32 0x0600CBDD = some (.rlcAtIdx .ix 0) := rfl

/-! The parameters (R158, R182), by hand from the rules. -/

/-- LDIR repeating at 0x2800 under `pc_based`: Y and X are bits 13 and 11 of the rewound PC (R158). -/
theorem test_pc_based_ldir :
    After
      { start with
        main := { start.main with b := 0x00, c := 0x02, d := 0x50, h := 0x40 }, pc := 0x2800,
        params := { Params.default with blockRepeatFlags := .pcBased },
        mem := [(0x2800, 0xED), (0x2801, 0xB0)] }
      (fun t => t.main.f == 0x2C#8 && t.pc == 0x2800#16 && t.memptr == 0x2801#16 && t.cycles == 21) = true := by
  decide

/-- INIR repeating under `pc_based`: t = 0xFF and C = 0x10 give k = 0x110, so the twin has C = H = 1 and
PV = parity(0 xor 0x12) = 1; then PV becomes 1 xor parity(1) xor 1 = 0 and H becomes (B[3:0] == 0) = 0 (R158, R159). -/
theorem test_pc_based_inir :
    After
      { start with
        main := { start.main with b := 0x13, c := 0x10, h := 0x40 }, ioAnswers := [0xFF],
        params := { Params.default with blockRepeatFlags := .pcBased },
        mem := [(0x1000, 0xED), (0x1001, 0xB2)] }
      (fun t => t.main.b == 0x12#8 && t.main.f == 0x03#8 && t.pc == 0x1000#16) = true := by
  decide

/-- SCF under `q_model` after an instruction that left F alone: Y and X are set from A or F (R182). -/
theorem test_q_model_scf :
    After
      { start with
        main := { start.main with a := 0x08, f := 0x20 }, q := false,
        params := { Params.default with scfCcfYx := .qModel }, mem := [(0x1000, 0x37)] }
      (fun t => t.main.f == 0x29#8 && t.q) = true := by
  decide

/-- M1_WAIT counts every M1 cycle of the step, also a halted step's one (R16, R300). -/
theorem test_m1_wait :
    After { start with halted := true, params := { Params.default with m1Wait := 3 } }
      (fun t => t.cycles == 7 && t.r == 0x01#8) = true := by
  decide

/-! The hypotheses of the statements can be met. -/

/-- A step that meets a property is a step. -/
theorem of_after {s : State} {p : State → Bool} (h : After s p = true) : ∃ t, step s = .next t ∧ p t = true := by
  unfold After at h
  cases e : step s with
  | next t => exact ⟨t, rfl, by simpa [e] using h⟩
  | fault f => cases f
  | refused r => simp [e] at h

theorem witness_DecodeOfEncode :
    (Instr.retn 7).wf = true ∧ (Instr.im2 7).wf = true ∧ (Instr.nopStar 0xFF).wf = true ∧
      (Instr.ldAtIdxN .iy 0x80 0xFF).wf = true ∧ (Instr.ignoredEd .ix (.ldPair .sp 0xFFFF)).wf = true := by decide

theorem witness_EncodeOfDecode : decode none [0xED, 0x6E] = .ok ⟨.im0 5, 2⟩ := rfl

theorem witness_StepRunsDecodedInstruction :
    (State.reset.Executes ∧ decode State.reset.pendingPrefix (State.reset.bytesAt State.reset.pc 5) = .ok ⟨.nop, 1⟩) ∧
    ({ start with pendingPrefix := some .iy, eiDelay := true, mem := [(0x1000, 0xE5)] }.Executes ∧
      decode (some .iy) ({ start with mem := [(0x1000, 0xE5)] }.bytesAt 0x1000 5) = .ok ⟨.pushIdx .iy, 1⟩) ∧
    4 < 5 :=
  ⟨⟨by decide, rfl⟩, ⟨by decide, rfl⟩, by decide⟩

theorem witness_StepKeepsInvariant : State.reset.Inv ∧ ∃ t, step State.reset = .next t ∧ (t.pc == 1#16) = true :=
  ⟨⟨by decide, by decide, by decide, by decide⟩, of_after (p := fun t => t.pc == 1#16) (by decide)⟩

/-- The steps of witness_StepIsBounded: the first executes nothing, the second an instruction of one byte. -/
theorem witness_StepIsBounded_executes :
    ¬ { start with iff1 := true, im := .im2, pollAnswers := [true], vectorAnswers := [0xFE] }.Executes ∧
    { start with mem := [(0x1000, 0xE3)] }.Executes ∧
      decode none ({ start with mem := [(0x1000, 0xE3)] }.bytesAt 0x1000 5) = .ok ⟨.exAtSpHl, 1⟩ :=
  ⟨by decide, by decide, rfl⟩

/-- A step that accepts an IM 2 interrupt, and one that executes. -/
theorem witness_StepIsBounded :
    (∃ t, step { start with iff1 := true, im := .im2, pollAnswers := [true], vectorAnswers := [0xFE] } = .next t ∧
      (t.calls.length == 6) = true) ∧
    (∃ t, step { start with mem := [(0x1000, 0xE3)] } = .next t ∧ (t.calls.length == 6) = true) :=
  ⟨of_after (p := fun t => t.calls.length == 6) (by decide), of_after (p := fun t => t.calls.length == 6) (by decide)⟩

theorem witness_NmiResponse :
    { start with nmiLatch := true, sp := 0x0001 }.nmiLatch = true ∧
      { start with nmiLatch := true, sp := 0x0001 }.pendingPrefix = none := by decide

/-- Both modes, and both kinds of request. -/
theorem witness_FixedVectorResponse :
    (let s := { start with iff1 := true, intLatch := true, sp := 0x0000 }
     s.nmiLatch = false ∧ s.pendingPrefix = none ∧ s.eiDelay = false ∧ s.iff1 = true ∧
       (s.intLatch = true ∨ s.pollAnswer = true) ∧ s.im ≠ .im2) ∧
    (let s := { start with iff1 := true, im := .im1, pollAnswers := [true] }
     s.nmiLatch = false ∧ s.pendingPrefix = none ∧ s.eiDelay = false ∧ s.iff1 = true ∧
       (s.intLatch = true ∨ s.pollAnswer = true) ∧ s.im ≠ .im2) := by decide

theorem witness_TableVectorResponse :
    let s := { start with iff1 := true, im := .im2, i := 0xFF, intLatch := true, vectorAnswers := [0xFF] }
    s.nmiLatch = false ∧ s.pendingPrefix = none ∧ s.eiDelay = false ∧ s.iff1 = true ∧
      (s.intLatch = true ∨ s.pollAnswer = true) ∧ s.im = .im2 := by decide

theorem witness_BlockedAcceptanceExecutes :
    (let s := { start with pendingPrefix := some .ix, nmiLatch := true }
     s.halted = false ∧ s.pendingPrefix ≠ none) ∧
    (let s := { start with iff1 := true, eiDelay := true, intLatch := true }
     s.halted = false ∧ s.eiDelay = true ∧ s.nmiLatch = false) := by decide

theorem witness_HaltedStepIdles :
    let s := { start with halted := true, intLatch := true }
    s.halted = true ∧ s.acceptsNmi = false ∧ s.acceptsMaskable = false := by decide

/-- A request that waits, and one that is accepted, of each kind. -/
theorem witness_RequestsPersist :
    (∃ t, step { start with intLatch := true } = .next t ∧ t.intLatch = true) ∧
    (∃ t, step { start with intLatch := true, iff1 := true } = .next t ∧ (!t.intLatch) = true) ∧
    (∃ t, step { start with nmiLatch := true, pendingPrefix := some .ix } = .next t ∧ t.nmiLatch = true) ∧
    (∃ t, step { start with nmiLatch := true } = .next t ∧ (!t.nmiLatch) = true) :=
  ⟨of_after (p := fun t => t.intLatch) (by decide), of_after (p := fun t => !t.intLatch) (by decide),
    of_after (p := fun t => t.nmiLatch) (by decide), of_after (p := fun t => !t.nmiLatch) (by decide)⟩

theorem witness_InterruptReturns :
    (Instr.retn 0).op = .ed (.retn 0) ∧ (Instr.retn 7).op = .ed (.retn 7) ∧ Instr.reti.op = .ed .reti := by decide

theorem witness_SecondBankOnlyByExchanges :
    (∃ t, exec .exx start = .next t ∧ t.alt ≠ start.alt) ∧ (∃ t, exec .exAfAf start = .next t ∧ t.alt ≠ start.alt) ∧
    (∃ t, exec (.ignoredExx .iy) start = .next t ∧ t.alt ≠ start.alt) :=
  ⟨⟨_, rfl, by decide⟩, ⟨_, rfl, by decide⟩, _, rfl, by decide⟩

theorem witness_SystemRegisterWriters :
    let s := { start with main := { start.main with a := 0xFF }, iff2 := true }
    (∃ t, exec .ldIA s = .next t ∧ t.i ≠ s.i) ∧ (∃ t, exec .ldRA s = .next t ∧ t.r ≠ s.r) ∧
    (∃ t, exec (.im2 7) s = .next t ∧ t.im ≠ s.im) ∧ (∃ t, exec (.retn 0) s = .next t ∧ t.iff1 ≠ s.iff1) ∧
    (∃ t, exec .di s = .next t ∧ t.iff2 ≠ s.iff2) ∧ (∃ t, exec (.ignoredEi .ix) s = .next t ∧ t.iff1 ≠ s.iff1) :=
  ⟨⟨_, rfl, by decide⟩, ⟨_, rfl, by decide⟩, ⟨_, rfl, by decide⟩, ⟨_, rfl, by decide⟩, ⟨_, rfl, by decide⟩,
    _, rfl, by decide⟩

theorem witness_HiddenStateWriters :
    (∃ t, exec .halt start = .next t ∧ t.halted ≠ start.halted) ∧
    (∃ t, exec .ei start = .next t ∧ t.eiDelay ≠ start.eiDelay) ∧
    (∃ t, exec (.redundantPrefix .ix .iy) start = .next t ∧ t.pendingPrefix ≠ start.pendingPrefix) :=
  ⟨⟨_, rfl, by decide⟩, ⟨_, rfl, by decide⟩, _, rfl, by decide⟩

theorem witness_FlagsOnlyWhereTheRuleWrites :
    (∃ t, exec .decBc start = .next t) ∧ Instr.decBc.op.writesF = false := ⟨⟨_, rfl⟩, by decide⟩

theorem witness_MemoryOnlyByWriteMem :
    let s := { start with main := { start.main with h := 0xFF, l := 0xFF } }
    ∃ t, exec (.ldAtHlN 0x55) s = .next t ∧ t.peek 0xFFFF ≠ s.peek 0xFFFF := ⟨_, rfl, by decide⟩

/-- A step that neither executes nor accepts. -/
theorem witness_RefreshCountsFetches_idle :
    ¬ { start with halted := true, r := 0x7F }.Executes ∧
      ∃ t, step { start with halted := true, r := 0x7F } = .next t ∧ (t.r == 0x00#8) = true :=
  ⟨by decide, of_after (p := fun t => t.r == 0x00#8) (by decide)⟩

/-- A prefix that was pending counts no M1 cycle again (R91, R267). -/
theorem witness_RefreshCountsFetches_pending :
    let s := { start with pendingPrefix := some .ix, mem := [(0x1000, 0xED), (0x1001, 0x44)] }
    s.Executes ∧ decode s.pendingPrefix (s.bytesAt s.pc 5) = .ok ⟨.ignoredEd .ix (.neg 0), 2⟩ ∧
      ∃ t, step s = .next t ∧ (t.r == 0x02#8) = true :=
  ⟨by decide, rfl, of_after (p := fun t => t.r == 0x02#8) (by decide)⟩

theorem witness_RefreshCountsFetches :
    let s := { start with r := 0xFF, mem := [(0x1000, 0xDD), (0x1001, 0xED), (0x1002, 0x44)] }
    s.Executes ∧ decode s.pendingPrefix (s.bytesAt s.pc 5) = .ok ⟨.ignoredEd .ix (.neg 0), 3⟩ ∧
      (∃ t, step s = .next t ∧ (t.r == 0x82#8) = true) ∧
      (Instr.ignoredEd .ix (.neg 0)).op ≠ .ed .ldRA ∧ ∀ ii, (Instr.ignoredEd .ix (.neg 0)).op ≠ .ignoredEd ii .ldRA :=
  ⟨by decide, rfl, of_after (p := fun t => t.r == 0x82#8) (by decide), by decide, fun ii => by cases ii <;> decide⟩

/-! The instructions the statements by operation are about: one for each clause, where the operand has a range at its end. -/

theorem witness_RegisterLoads :
    Instr.ldBA.op = .base (.ldRegReg .b .a) ∧ (Instr.ldAN 0xFF).op = .base (.ldRegN .a 0xFF) ∧
    (Instr.ldIdxHIdxL .iy).op = .idx .iy (.ldRegReg .h .l) ∧
    (Instr.ldIdxLN .ix 0xFF).op = .idx .ix (.ldHalfN .low 0xFF) := by decide

theorem witness_LoadsFromMemory :
    Instr.ldHAtHl.op = .base (.ldRegMem .h) ∧ Instr.ldAAtDe.op = .base (.ldA .de) ∧
    (Instr.ldAAtNn 0xFFFF).op = .base (.ldAAbs 0xFFFF) ∧
    (Instr.ldHAtIdx .ix 0x80).op = .idx .ix (.ldRegMem .h 0x80) := by decide

theorem witness_StoresToMemory :
    Instr.ldAtHlL.op = .base (.ldMemReg .l) ∧ (Instr.ldAtHlN 0xFF).op = .base (.ldMemN 0xFF) ∧
    Instr.ldAtBcA.op = .base (.stA .bc) ∧ (Instr.ldAtNnA 0xFFFF).op = .base (.stAAbs 0xFFFF) ∧
    (Instr.ldAtIdxL .iy 0x7F).op = .idx .iy (.ldMemReg 0x7F .l) ∧
    (Instr.ldAtIdxN .iy 0x80 0x00).op = .idx .iy (.ldMemN 0x80 0x00) := by decide

theorem witness_InterruptRegisterLoads :
    Instr.ldAI.op = .ed .ldAI ∧ Instr.ldAR.op = .ed .ldAR ∧ Instr.ldIA.op = .ed .ldIA ∧
    Instr.ldRA.op = .ed .ldRA := by decide

theorem witness_PairLoads :
    (Instr.ldSpNn 0xFFFF).op = .base (.ldPairN .sp 0xFFFF) ∧ (Instr.ldIdxNn .ix 0xFFFF).op = .idx .ix (.ldN 0xFFFF) ∧
    (Instr.ldHlAtNn 0xFFFF).op = .base (.ldHl 0xFFFF) ∧ (Instr.ldHlAtNnEd 0xFFFF).op = .ed (.ldPair .hl 0xFFFF) ∧
    (Instr.ldIdxAtNn .iy 0xFFFF).op = .idx .iy (.ld 0xFFFF) ∧ Instr.ldSpHl.op = .base .ldSpHl ∧
    (Instr.ldSpIdx .ix).op = .idx .ix .ldSp := by decide

theorem witness_PairStores :
    (Instr.ldAtNnHl 0xFFFF).op = .base (.stHl 0xFFFF) ∧ (Instr.ldAtNnSp 0xFFFF).op = .ed (.stPair 0xFFFF .sp) ∧
    (Instr.ldAtNnIdx .ix 0xFFFF).op = .idx .ix (.st 0xFFFF) := by decide

theorem witness_PushAndPop :
    Instr.pushAf.op = .base (.push .af) ∧ (Instr.pushIdx .ix).op = .idx .ix .push ∧
    Instr.popAf.op = .base (.pop .af) ∧ (Instr.popIdx .iy).op = .idx .iy .pop := by decide

theorem witness_RegisterExchanges :
    Instr.exAfAf.op = .base .exAfAf ∧ Instr.exx.op = .base .exx ∧ Instr.exDeHl.op = .base .exDeHl := by decide

theorem witness_StackTopExchanges :
    Instr.exAtSpHl.op = .base .exSpHl ∧ (Instr.exAtSpIdx .iy).op = .idx .iy .exSp := by decide

theorem witness_BlockTransfers :
    Instr.ldi.op = .ed (.blockLd .inc false) ∧ Instr.lddr.op = .ed (.blockLd .dec true) := by decide

theorem witness_BlockSearches :
    Instr.cpd.op = .ed (.blockCp .dec false) ∧ Instr.cpir.op = .ed (.blockCp .inc true) := by decide

theorem witness_BlockInputs :
    Instr.ini.op = .ed (.blockIn .inc false) ∧ Instr.indr.op = .ed (.blockIn .dec true) := by decide

theorem witness_BlockOutputs :
    Instr.outd.op = .ed (.blockOut .dec false) ∧ Instr.otir.op = .ed (.blockOut .inc true) := by decide

theorem witness_AluSources :
    Instr.cpA.op = .base (.aluReg .cp .a) ∧ (Instr.addAN 0xFF).op = .base (.aluN .add 0xFF) ∧
    Instr.sbcAAtHl.op = .base (.aluMem .sbc) ∧ (Instr.xorIdxL .iy).op = .idx .iy (.aluHalf .xor .low) ∧
    (Instr.subAtIdx .ix 0x80).op = .idx .ix (.aluMem .sub 0x80) := by decide

/-- The carry of ADC and SBC is F.C, at both values. -/
theorem witness_AluResults :
    (Alu.adc = Alu.adc ∧ true = flagC 0x01) ∧ (Alu.sbc = Alu.sbc ∧ false = flagC 0xFE) := by decide

theorem witness_RegisterCounting :
    Instr.incA.op = .base (.incReg .a) ∧ Instr.decB.op = .base (.decReg .b) ∧
    (Instr.incIdxH .ix).op = .idx .ix (.incHalf .high) ∧ (Instr.decIdxL .iy).op = .idx .iy (.decHalf .low) := by decide

theorem witness_MemoryCounting :
    Instr.incAtHl.op = .base .incMem ∧ Instr.decAtHl.op = .base .decMem ∧
    (Instr.incAtIdx .ix 0x80).op = .idx .ix (.incMem 0x80) ∧ (Instr.decAtIdx .iy 0x7F).op = .idx .iy (.decMem 0x7F) := by
  decide

theorem witness_AccumulatorAndCarry :
    Instr.daa.op = .base .daa ∧ Instr.cpl.op = .base .cpl ∧ (Instr.neg 7).op = .ed (.neg 7) ∧
    Instr.scf.op = .base .scf ∧ Instr.ccf.op = .base .ccf := by decide

theorem witness_DecimalAdjustIsDecimal : (99 : Nat) < 100 ∧ (0 : Nat) < 100 := by decide

theorem witness_WordAdditions :
    Instr.addHlSp.op = .base (.addHl .sp) ∧ (Instr.addIdxIdx .ix).op = .idx .ix (.add .hl) ∧
    (Instr.addIdxSp .iy).op = .idx .iy (.add .sp) := by decide

theorem witness_WordCarryArithmetic :
    Instr.adcHlHl.op = .ed (.adcHl .hl) ∧ Instr.sbcHlSp.op = .ed (.sbcHl .sp) := by decide

theorem witness_PairCounting :
    Instr.incSp.op = .base (.incPair .sp) ∧ Instr.decHl.op = .base (.decPair .hl) ∧
    (Instr.incIdx .ix).op = .idx .ix .inc ∧ (Instr.decIdx .iy).op = .idx .iy .dec := by decide

theorem witness_AccumulatorRotates :
    Instr.rlca.op = .base .rlca ∧ Instr.rla.op = .base .rla ∧ Instr.rrca.op = .base .rrca ∧
    Instr.rra.op = .base .rra := by decide

theorem witness_RotatesAndShifts :
    Instr.sllA.op = .cb (.rotReg .sll .a) ∧ Instr.srlAtHl.op = .cb (.rotMem .srl) ∧
    (Instr.rlAtIdx .ix 0x80).op = .idxCb .ix 0x80 (.rot .rl none) ∧
    (Instr.sraAtIdxA .iy 0x7F).op = .idxCb .iy 0x7F (.rot .sra (some .a)) := by decide

theorem witness_DigitRotates : Instr.rld.op = .ed .rld ∧ Instr.rrd.op = .ed .rrd := by decide

theorem witness_BitTests :
    Instr.bit7A.op = .cb (.bitReg 7 .a) ∧ Instr.bit0AtHl.op = .cb (.bitMem 0) ∧
    (Instr.bit7AtIdx .iy 0x80 7).op = .idxCb .iy 0x80 (.bit 7 7) := by decide

theorem witness_BitChanges :
    7 < 8 ∧ Instr.set7A.op = .cb (.setReg 7 .a) ∧ Instr.set0AtHl.op = .cb (.setMem 0) ∧
    (Instr.set7AtIdx .ix 0x80).op = .idxCb .ix 0x80 (.set 7 none) ∧ Instr.res0B.op = .cb (.resReg 0 .b) ∧
    Instr.res7AtHl.op = .cb (.resMem 7) ∧ (Instr.res0AtIdxL .iy 0x7F).op = .idxCb .iy 0x7F (.res 0 (some .l)) := by
  decide

theorem witness_Jumps :
    (Instr.jpNn 0xFFFF).op = .base (.jp 0xFFFF) ∧ (Instr.jpMNn 0xFFFF).op = .base (.jpCc .m 0xFFFF) ∧
    (Instr.jrE 0x80).op = .base (.jr 0x80) ∧ (Instr.jrNcE 0x7F).op = .base (.jrCc .nc 0x7F) ∧
    Instr.jpAtHl.op = .base .jpHl ∧ (Instr.jpAtIdx .iy).op = .idx .iy .jp ∧
    (Instr.djnzE 0x80).op = .base (.djnz 0x80) := by decide

/-- A call that is taken, one whose condition holds, RST 38H, and a call whose condition does not hold. -/
theorem witness_Calls :
    ((Instr.callNn 0xFFFF).op = .base (.call 0xFFFF)) ∧
    ((Instr.callPoNn 0).op = .base (.callCc .po 0) ∧ condHolds .po start.main.f = true) ∧
    (Instr.rst38.op = .base (.rst 7) ∧ 0x0038#16 = BitVec.ofNat 16 (8 * (7#3).toNat)) ∧
    ((Instr.callMNn 0).op = .base (.callCc .m 0) ∧ condHolds .m start.main.f = false) := by decide

theorem witness_Returns :
    Instr.ret.op = .base .ret ∧ (Instr.retP.op = .base (.retCc .p) ∧ condHolds .p start.main.f = true) ∧
    (Instr.retC.op = .base (.retCc .c) ∧ condHolds .c start.main.f = false) := by decide

theorem witness_Inputs :
    (Instr.inAAtN 0xFF).op = .base (.inAN 0xFF) ∧ Instr.inFAtC.op = .ed .inF ∧ Instr.inCAtC.op = .ed (.inReg .c) := by
  decide

theorem witness_Outputs :
    (Instr.outAtNA 0xFF).op = .base (.outNA 0xFF) ∧ Instr.outAtCB.op = .ed (.outReg .b) ∧
    Instr.outAtC0.op = .ed .outZero := by decide

theorem witness_CpuControl :
    Instr.nop.op = .base .nop ∧ (Instr.nopStar 0xFF).op = .ed (.nopStar 0xFF) ∧ Instr.halt.op = .base .halt ∧
    Instr.di.op = .base .di ∧ Instr.ei.op = .base .ei ∧ (Instr.im1 6).op = .ed (.im .im1 6) := by decide

theorem witness_PrefixedForms :
    (Instr.ignoredLdAN .ix 0xFF).op = .ignored .ix (.ldRegN .a 0xFF) ∧
    (Instr.ignoredEd .iy .reti).op = .ignoredEd .iy .reti ∧
    (Instr.redundantPrefix .ix .iy).op = .redundant .ix .iy := by decide

end Sys2Proof.Tests
end

