-- ==== Sys2Proof/Tests/Words.lean ====
section
/-! SUPPORT. One word of every instruction, written out from spec/opcode_table.json with its operand bytes filled in: it
decodes to the instruction and its length. -/

namespace Sys2Proof.Tests

/-- The bytes decode to the instruction, all of them fetched. -/
abbrev Reads (bytes : List Byte) (i : Instr) : Prop := decode none bytes = .ok ⟨i, bytes.length⟩

theorem test_words_00 :
    Reads [0x00] .nop ∧ Reads [0x01, 0xA5, 0x5C] (.ldBcNn 0x5CA5) ∧ Reads [0x02] .ldAtBcA ∧ Reads [0x03] .incBc ∧
    Reads [0x04] .incB ∧ Reads [0x05] .decB ∧ Reads [0x06, 0xC3] (.ldBN 0xC3) ∧ Reads [0x07] .rlca ∧
    Reads [0x08] .exAfAf ∧ Reads [0x09] .addHlBc ∧ Reads [0x0A] .ldAAtBc ∧ Reads [0x0B] .decBc ∧ Reads [0x0C] .incC ∧
    Reads [0x0D] .decC ∧ Reads [0x0E, 0xC3] (.ldCN 0xC3) ∧ Reads [0x0F] .rrca ∧ Reads [0x10, 0xFD] (.djnzE 0xFD) ∧
    Reads [0x11, 0xA5, 0x5C] (.ldDeNn 0x5CA5) ∧ Reads [0x12] .ldAtDeA ∧ Reads [0x13] .incDe ∧ Reads [0x14] .incD ∧
    Reads [0x15] .decD ∧ Reads [0x16, 0xC3] (.ldDN 0xC3) ∧ Reads [0x17] .rla ∧ Reads [0x18, 0xFD] (.jrE 0xFD) ∧
    Reads [0x19] .addHlDe ∧ Reads [0x1A] .ldAAtDe ∧ Reads [0x1B] .decDe ∧ Reads [0x1C] .incE ∧ Reads [0x1D] .decE ∧
    Reads [0x1E, 0xC3] (.ldEN 0xC3) ∧ Reads [0x1F] .rra ∧ Reads [0x20, 0xFD] (.jrNzE 0xFD) ∧
    Reads [0x21, 0xA5, 0x5C] (.ldHlNn 0x5CA5) ∧ Reads [0x22, 0xA5, 0x5C] (.ldAtNnHl 0x5CA5) ∧ Reads [0x23] .incHl ∧
    Reads [0x24] .incH ∧ Reads [0x25] .decH ∧ Reads [0x26, 0xC3] (.ldHN 0xC3) ∧ Reads [0x27] .daa ∧
    Reads [0x28, 0xFD] (.jrZE 0xFD) ∧ Reads [0x29] .addHlHl ∧ Reads [0x2A, 0xA5, 0x5C] (.ldHlAtNn 0x5CA5) ∧
    Reads [0x2B] .decHl ∧ Reads [0x2C] .incL ∧ Reads [0x2D] .decL ∧ Reads [0x2E, 0xC3] (.ldLN 0xC3) ∧
    Reads [0x2F] .cpl ∧ Reads [0x30, 0xFD] (.jrNcE 0xFD) ∧ Reads [0x31, 0xA5, 0x5C] (.ldSpNn 0x5CA5) ∧
    Reads [0x32, 0xA5, 0x5C] (.ldAtNnA 0x5CA5) ∧ Reads [0x33] .incSp ∧ Reads [0x34] .incAtHl ∧
    Reads [0x35] .decAtHl ∧ Reads [0x36, 0xC3] (.ldAtHlN 0xC3) ∧ Reads [0x37] .scf ∧
    Reads [0x38, 0xFD] (.jrCE 0xFD) ∧ Reads [0x39] .addHlSp ∧ Reads [0x3A, 0xA5, 0x5C] (.ldAAtNn 0x5CA5) ∧
    Reads [0x3B] .decSp ∧ Reads [0x3C] .incA ∧ Reads [0x3D] .decA ∧ Reads [0x3E, 0xC3] (.ldAN 0xC3) ∧
    Reads [0x3F] .ccf := by
  and_intros <;> rfl

theorem test_words_01 :
    Reads [0x40] .ldBB ∧ Reads [0x41] .ldBC ∧ Reads [0x42] .ldBD ∧ Reads [0x43] .ldBE ∧ Reads [0x44] .ldBH ∧
    Reads [0x45] .ldBL ∧ Reads [0x46] .ldBAtHl ∧ Reads [0x47] .ldBA ∧ Reads [0x48] .ldCB ∧ Reads [0x49] .ldCC ∧
    Reads [0x4A] .ldCD ∧ Reads [0x4B] .ldCE ∧ Reads [0x4C] .ldCH ∧ Reads [0x4D] .ldCL ∧ Reads [0x4E] .ldCAtHl ∧
    Reads [0x4F] .ldCA ∧ Reads [0x50] .ldDB ∧ Reads [0x51] .ldDC ∧ Reads [0x52] .ldDD ∧ Reads [0x53] .ldDE ∧
    Reads [0x54] .ldDH ∧ Reads [0x55] .ldDL ∧ Reads [0x56] .ldDAtHl ∧ Reads [0x57] .ldDA ∧ Reads [0x58] .ldEB ∧
    Reads [0x59] .ldEC ∧ Reads [0x5A] .ldED ∧ Reads [0x5B] .ldEE ∧ Reads [0x5C] .ldEH ∧ Reads [0x5D] .ldEL ∧
    Reads [0x5E] .ldEAtHl ∧ Reads [0x5F] .ldEA ∧ Reads [0x60] .ldHB ∧ Reads [0x61] .ldHC ∧ Reads [0x62] .ldHD ∧
    Reads [0x63] .ldHE ∧ Reads [0x64] .ldHH ∧ Reads [0x65] .ldHL ∧ Reads [0x66] .ldHAtHl ∧ Reads [0x67] .ldHA ∧
    Reads [0x68] .ldLB ∧ Reads [0x69] .ldLC ∧ Reads [0x6A] .ldLD ∧ Reads [0x6B] .ldLE ∧ Reads [0x6C] .ldLH ∧
    Reads [0x6D] .ldLL ∧ Reads [0x6E] .ldLAtHl ∧ Reads [0x6F] .ldLA ∧ Reads [0x70] .ldAtHlB ∧ Reads [0x71] .ldAtHlC ∧
    Reads [0x72] .ldAtHlD ∧ Reads [0x73] .ldAtHlE ∧ Reads [0x74] .ldAtHlH ∧ Reads [0x75] .ldAtHlL ∧
    Reads [0x76] .halt ∧ Reads [0x77] .ldAtHlA ∧ Reads [0x78] .ldAB ∧ Reads [0x79] .ldAC ∧ Reads [0x7A] .ldAD ∧
    Reads [0x7B] .ldAE ∧ Reads [0x7C] .ldAH ∧ Reads [0x7D] .ldAL ∧ Reads [0x7E] .ldAAtHl ∧ Reads [0x7F] .ldAA := by
  and_intros <;> rfl

theorem test_words_02 :
    Reads [0x80] .addAB ∧ Reads [0x81] .addAC ∧ Reads [0x82] .addAD ∧ Reads [0x83] .addAE ∧ Reads [0x84] .addAH ∧
    Reads [0x85] .addAL ∧ Reads [0x86] .addAAtHl ∧ Reads [0x87] .addAA ∧ Reads [0x88] .adcAB ∧ Reads [0x89] .adcAC ∧
    Reads [0x8A] .adcAD ∧ Reads [0x8B] .adcAE ∧ Reads [0x8C] .adcAH ∧ Reads [0x8D] .adcAL ∧ Reads [0x8E] .adcAAtHl ∧
    Reads [0x8F] .adcAA ∧ Reads [0x90] .subB ∧ Reads [0x91] .subC ∧ Reads [0x92] .subD ∧ Reads [0x93] .subE ∧
    Reads [0x94] .subH ∧ Reads [0x95] .subL ∧ Reads [0x96] .subAtHl ∧ Reads [0x97] .subA ∧ Reads [0x98] .sbcAB ∧
    Reads [0x99] .sbcAC ∧ Reads [0x9A] .sbcAD ∧ Reads [0x9B] .sbcAE ∧ Reads [0x9C] .sbcAH ∧ Reads [0x9D] .sbcAL ∧
    Reads [0x9E] .sbcAAtHl ∧ Reads [0x9F] .sbcAA ∧ Reads [0xA0] .andB ∧ Reads [0xA1] .andC ∧ Reads [0xA2] .andD ∧
    Reads [0xA3] .andE ∧ Reads [0xA4] .andH ∧ Reads [0xA5] .andL ∧ Reads [0xA6] .andAtHl ∧ Reads [0xA7] .andA ∧
    Reads [0xA8] .xorB ∧ Reads [0xA9] .xorC ∧ Reads [0xAA] .xorD ∧ Reads [0xAB] .xorE ∧ Reads [0xAC] .xorH ∧
    Reads [0xAD] .xorL ∧ Reads [0xAE] .xorAtHl ∧ Reads [0xAF] .xorA ∧ Reads [0xB0] .orB ∧ Reads [0xB1] .orC ∧
    Reads [0xB2] .orD ∧ Reads [0xB3] .orE ∧ Reads [0xB4] .orH ∧ Reads [0xB5] .orL ∧ Reads [0xB6] .orAtHl ∧
    Reads [0xB7] .orA ∧ Reads [0xB8] .cpB ∧ Reads [0xB9] .cpC ∧ Reads [0xBA] .cpD ∧ Reads [0xBB] .cpE ∧
    Reads [0xBC] .cpH ∧ Reads [0xBD] .cpL ∧ Reads [0xBE] .cpAtHl ∧ Reads [0xBF] .cpA := by
  and_intros <;> rfl

theorem test_words_03 :
    Reads [0xC0] .retNz ∧ Reads [0xC1] .popBc ∧ Reads [0xC2, 0xA5, 0x5C] (.jpNzNn 0x5CA5) ∧
    Reads [0xC3, 0xA5, 0x5C] (.jpNn 0x5CA5) ∧ Reads [0xC4, 0xA5, 0x5C] (.callNzNn 0x5CA5) ∧ Reads [0xC5] .pushBc ∧
    Reads [0xC6, 0xC3] (.addAN 0xC3) ∧ Reads [0xC7] .rst00 ∧ Reads [0xC8] .retZ ∧ Reads [0xC9] .ret ∧
    Reads [0xCA, 0xA5, 0x5C] (.jpZNn 0x5CA5) ∧ Reads [0xCC, 0xA5, 0x5C] (.callZNn 0x5CA5) ∧
    Reads [0xCD, 0xA5, 0x5C] (.callNn 0x5CA5) ∧ Reads [0xCE, 0xC3] (.adcAN 0xC3) ∧ Reads [0xCF] .rst08 ∧
    Reads [0xD0] .retNc ∧ Reads [0xD1] .popDe ∧ Reads [0xD2, 0xA5, 0x5C] (.jpNcNn 0x5CA5) ∧
    Reads [0xD3, 0xC3] (.outAtNA 0xC3) ∧ Reads [0xD4, 0xA5, 0x5C] (.callNcNn 0x5CA5) ∧ Reads [0xD5] .pushDe ∧
    Reads [0xD6, 0xC3] (.subN 0xC3) ∧ Reads [0xD7] .rst10 ∧ Reads [0xD8] .retC ∧ Reads [0xD9] .exx ∧
    Reads [0xDA, 0xA5, 0x5C] (.jpCNn 0x5CA5) ∧ Reads [0xDB, 0xC3] (.inAAtN 0xC3) ∧
    Reads [0xDC, 0xA5, 0x5C] (.callCNn 0x5CA5) ∧ Reads [0xDE, 0xC3] (.sbcAN 0xC3) ∧ Reads [0xDF] .rst18 ∧
    Reads [0xE0] .retPo ∧ Reads [0xE1] .popHl ∧ Reads [0xE2, 0xA5, 0x5C] (.jpPoNn 0x5CA5) ∧ Reads [0xE3] .exAtSpHl ∧
    Reads [0xE4, 0xA5, 0x5C] (.callPoNn 0x5CA5) ∧ Reads [0xE5] .pushHl ∧ Reads [0xE6, 0xC3] (.andN 0xC3) ∧
    Reads [0xE7] .rst20 ∧ Reads [0xE8] .retPe ∧ Reads [0xE9] .jpAtHl ∧ Reads [0xEA, 0xA5, 0x5C] (.jpPeNn 0x5CA5) ∧
    Reads [0xEB] .exDeHl ∧ Reads [0xEC, 0xA5, 0x5C] (.callPeNn 0x5CA5) ∧ Reads [0xEE, 0xC3] (.xorN 0xC3) ∧
    Reads [0xEF] .rst28 ∧ Reads [0xF0] .retP ∧ Reads [0xF1] .popAf ∧ Reads [0xF2, 0xA5, 0x5C] (.jpPNn 0x5CA5) ∧
    Reads [0xF3] .di ∧ Reads [0xF4, 0xA5, 0x5C] (.callPNn 0x5CA5) ∧ Reads [0xF5] .pushAf ∧
    Reads [0xF6, 0xC3] (.orN 0xC3) ∧ Reads [0xF7] .rst30 ∧ Reads [0xF8] .retM ∧ Reads [0xF9] .ldSpHl ∧
    Reads [0xFA, 0xA5, 0x5C] (.jpMNn 0x5CA5) ∧ Reads [0xFB] .ei ∧ Reads [0xFC, 0xA5, 0x5C] (.callMNn 0x5CA5) ∧
    Reads [0xFE, 0xC3] (.cpN 0xC3) ∧ Reads [0xFF] .rst38 ∧ Reads [0xCB, 0x00] .rlcB ∧ Reads [0xCB, 0x01] .rlcC ∧
    Reads [0xCB, 0x02] .rlcD ∧ Reads [0xCB, 0x03] .rlcE := by
  and_intros <;> rfl

theorem test_words_04 :
    Reads [0xCB, 0x04] .rlcH ∧ Reads [0xCB, 0x05] .rlcL ∧ Reads [0xCB, 0x06] .rlcAtHl ∧ Reads [0xCB, 0x07] .rlcA ∧
    Reads [0xCB, 0x08] .rrcB ∧ Reads [0xCB, 0x09] .rrcC ∧ Reads [0xCB, 0x0A] .rrcD ∧ Reads [0xCB, 0x0B] .rrcE ∧
    Reads [0xCB, 0x0C] .rrcH ∧ Reads [0xCB, 0x0D] .rrcL ∧ Reads [0xCB, 0x0E] .rrcAtHl ∧ Reads [0xCB, 0x0F] .rrcA ∧
    Reads [0xCB, 0x10] .rlB ∧ Reads [0xCB, 0x11] .rlC ∧ Reads [0xCB, 0x12] .rlD ∧ Reads [0xCB, 0x13] .rlE ∧
    Reads [0xCB, 0x14] .rlH ∧ Reads [0xCB, 0x15] .rlL ∧ Reads [0xCB, 0x16] .rlAtHl ∧ Reads [0xCB, 0x17] .rlA ∧
    Reads [0xCB, 0x18] .rrB ∧ Reads [0xCB, 0x19] .rrC ∧ Reads [0xCB, 0x1A] .rrD ∧ Reads [0xCB, 0x1B] .rrE ∧
    Reads [0xCB, 0x1C] .rrH ∧ Reads [0xCB, 0x1D] .rrL ∧ Reads [0xCB, 0x1E] .rrAtHl ∧ Reads [0xCB, 0x1F] .rrA ∧
    Reads [0xCB, 0x20] .slaB ∧ Reads [0xCB, 0x21] .slaC ∧ Reads [0xCB, 0x22] .slaD ∧ Reads [0xCB, 0x23] .slaE ∧
    Reads [0xCB, 0x24] .slaH ∧ Reads [0xCB, 0x25] .slaL ∧ Reads [0xCB, 0x26] .slaAtHl ∧ Reads [0xCB, 0x27] .slaA ∧
    Reads [0xCB, 0x28] .sraB ∧ Reads [0xCB, 0x29] .sraC ∧ Reads [0xCB, 0x2A] .sraD ∧ Reads [0xCB, 0x2B] .sraE ∧
    Reads [0xCB, 0x2C] .sraH ∧ Reads [0xCB, 0x2D] .sraL ∧ Reads [0xCB, 0x2E] .sraAtHl ∧ Reads [0xCB, 0x2F] .sraA ∧
    Reads [0xCB, 0x30] .sllB ∧ Reads [0xCB, 0x31] .sllC ∧ Reads [0xCB, 0x32] .sllD ∧ Reads [0xCB, 0x33] .sllE ∧
    Reads [0xCB, 0x34] .sllH ∧ Reads [0xCB, 0x35] .sllL ∧ Reads [0xCB, 0x36] .sllAtHl ∧ Reads [0xCB, 0x37] .sllA ∧
    Reads [0xCB, 0x38] .srlB ∧ Reads [0xCB, 0x39] .srlC ∧ Reads [0xCB, 0x3A] .srlD ∧ Reads [0xCB, 0x3B] .srlE ∧
    Reads [0xCB, 0x3C] .srlH ∧ Reads [0xCB, 0x3D] .srlL ∧ Reads [0xCB, 0x3E] .srlAtHl ∧ Reads [0xCB, 0x3F] .srlA ∧
    Reads [0xCB, 0x40] .bit0B ∧ Reads [0xCB, 0x41] .bit0C ∧ Reads [0xCB, 0x42] .bit0D ∧ Reads [0xCB, 0x43] .bit0E := by
  and_intros <;> rfl

theorem test_words_05 :
    Reads [0xCB, 0x44] .bit0H ∧ Reads [0xCB, 0x45] .bit0L ∧ Reads [0xCB, 0x46] .bit0AtHl ∧
    Reads [0xCB, 0x47] .bit0A ∧ Reads [0xCB, 0x48] .bit1B ∧ Reads [0xCB, 0x49] .bit1C ∧ Reads [0xCB, 0x4A] .bit1D ∧
    Reads [0xCB, 0x4B] .bit1E ∧ Reads [0xCB, 0x4C] .bit1H ∧ Reads [0xCB, 0x4D] .bit1L ∧
    Reads [0xCB, 0x4E] .bit1AtHl ∧ Reads [0xCB, 0x4F] .bit1A ∧ Reads [0xCB, 0x50] .bit2B ∧
    Reads [0xCB, 0x51] .bit2C ∧ Reads [0xCB, 0x52] .bit2D ∧ Reads [0xCB, 0x53] .bit2E ∧ Reads [0xCB, 0x54] .bit2H ∧
    Reads [0xCB, 0x55] .bit2L ∧ Reads [0xCB, 0x56] .bit2AtHl ∧ Reads [0xCB, 0x57] .bit2A ∧
    Reads [0xCB, 0x58] .bit3B ∧ Reads [0xCB, 0x59] .bit3C ∧ Reads [0xCB, 0x5A] .bit3D ∧ Reads [0xCB, 0x5B] .bit3E ∧
    Reads [0xCB, 0x5C] .bit3H ∧ Reads [0xCB, 0x5D] .bit3L ∧ Reads [0xCB, 0x5E] .bit3AtHl ∧
    Reads [0xCB, 0x5F] .bit3A ∧ Reads [0xCB, 0x60] .bit4B ∧ Reads [0xCB, 0x61] .bit4C ∧ Reads [0xCB, 0x62] .bit4D ∧
    Reads [0xCB, 0x63] .bit4E ∧ Reads [0xCB, 0x64] .bit4H ∧ Reads [0xCB, 0x65] .bit4L ∧
    Reads [0xCB, 0x66] .bit4AtHl ∧ Reads [0xCB, 0x67] .bit4A ∧ Reads [0xCB, 0x68] .bit5B ∧
    Reads [0xCB, 0x69] .bit5C ∧ Reads [0xCB, 0x6A] .bit5D ∧ Reads [0xCB, 0x6B] .bit5E ∧ Reads [0xCB, 0x6C] .bit5H ∧
    Reads [0xCB, 0x6D] .bit5L ∧ Reads [0xCB, 0x6E] .bit5AtHl ∧ Reads [0xCB, 0x6F] .bit5A ∧
    Reads [0xCB, 0x70] .bit6B ∧ Reads [0xCB, 0x71] .bit6C ∧ Reads [0xCB, 0x72] .bit6D ∧ Reads [0xCB, 0x73] .bit6E ∧
    Reads [0xCB, 0x74] .bit6H ∧ Reads [0xCB, 0x75] .bit6L ∧ Reads [0xCB, 0x76] .bit6AtHl ∧
    Reads [0xCB, 0x77] .bit6A ∧ Reads [0xCB, 0x78] .bit7B ∧ Reads [0xCB, 0x79] .bit7C ∧ Reads [0xCB, 0x7A] .bit7D ∧
    Reads [0xCB, 0x7B] .bit7E ∧ Reads [0xCB, 0x7C] .bit7H ∧ Reads [0xCB, 0x7D] .bit7L ∧
    Reads [0xCB, 0x7E] .bit7AtHl ∧ Reads [0xCB, 0x7F] .bit7A ∧ Reads [0xCB, 0x80] .res0B ∧
    Reads [0xCB, 0x81] .res0C ∧ Reads [0xCB, 0x82] .res0D ∧ Reads [0xCB, 0x83] .res0E := by
  and_intros <;> rfl

theorem test_words_06 :
    Reads [0xCB, 0x84] .res0H ∧ Reads [0xCB, 0x85] .res0L ∧ Reads [0xCB, 0x86] .res0AtHl ∧
    Reads [0xCB, 0x87] .res0A ∧ Reads [0xCB, 0x88] .res1B ∧ Reads [0xCB, 0x89] .res1C ∧ Reads [0xCB, 0x8A] .res1D ∧
    Reads [0xCB, 0x8B] .res1E ∧ Reads [0xCB, 0x8C] .res1H ∧ Reads [0xCB, 0x8D] .res1L ∧
    Reads [0xCB, 0x8E] .res1AtHl ∧ Reads [0xCB, 0x8F] .res1A ∧ Reads [0xCB, 0x90] .res2B ∧
    Reads [0xCB, 0x91] .res2C ∧ Reads [0xCB, 0x92] .res2D ∧ Reads [0xCB, 0x93] .res2E ∧ Reads [0xCB, 0x94] .res2H ∧
    Reads [0xCB, 0x95] .res2L ∧ Reads [0xCB, 0x96] .res2AtHl ∧ Reads [0xCB, 0x97] .res2A ∧
    Reads [0xCB, 0x98] .res3B ∧ Reads [0xCB, 0x99] .res3C ∧ Reads [0xCB, 0x9A] .res3D ∧ Reads [0xCB, 0x9B] .res3E ∧
    Reads [0xCB, 0x9C] .res3H ∧ Reads [0xCB, 0x9D] .res3L ∧ Reads [0xCB, 0x9E] .res3AtHl ∧
    Reads [0xCB, 0x9F] .res3A ∧ Reads [0xCB, 0xA0] .res4B ∧ Reads [0xCB, 0xA1] .res4C ∧ Reads [0xCB, 0xA2] .res4D ∧
    Reads [0xCB, 0xA3] .res4E ∧ Reads [0xCB, 0xA4] .res4H ∧ Reads [0xCB, 0xA5] .res4L ∧
    Reads [0xCB, 0xA6] .res4AtHl ∧ Reads [0xCB, 0xA7] .res4A ∧ Reads [0xCB, 0xA8] .res5B ∧
    Reads [0xCB, 0xA9] .res5C ∧ Reads [0xCB, 0xAA] .res5D ∧ Reads [0xCB, 0xAB] .res5E ∧ Reads [0xCB, 0xAC] .res5H ∧
    Reads [0xCB, 0xAD] .res5L ∧ Reads [0xCB, 0xAE] .res5AtHl ∧ Reads [0xCB, 0xAF] .res5A ∧
    Reads [0xCB, 0xB0] .res6B ∧ Reads [0xCB, 0xB1] .res6C ∧ Reads [0xCB, 0xB2] .res6D ∧ Reads [0xCB, 0xB3] .res6E ∧
    Reads [0xCB, 0xB4] .res6H ∧ Reads [0xCB, 0xB5] .res6L ∧ Reads [0xCB, 0xB6] .res6AtHl ∧
    Reads [0xCB, 0xB7] .res6A ∧ Reads [0xCB, 0xB8] .res7B ∧ Reads [0xCB, 0xB9] .res7C ∧ Reads [0xCB, 0xBA] .res7D ∧
    Reads [0xCB, 0xBB] .res7E ∧ Reads [0xCB, 0xBC] .res7H ∧ Reads [0xCB, 0xBD] .res7L ∧
    Reads [0xCB, 0xBE] .res7AtHl ∧ Reads [0xCB, 0xBF] .res7A ∧ Reads [0xCB, 0xC0] .set0B ∧
    Reads [0xCB, 0xC1] .set0C ∧ Reads [0xCB, 0xC2] .set0D ∧ Reads [0xCB, 0xC3] .set0E := by
  and_intros <;> rfl

theorem test_words_07 :
    Reads [0xCB, 0xC4] .set0H ∧ Reads [0xCB, 0xC5] .set0L ∧ Reads [0xCB, 0xC6] .set0AtHl ∧
    Reads [0xCB, 0xC7] .set0A ∧ Reads [0xCB, 0xC8] .set1B ∧ Reads [0xCB, 0xC9] .set1C ∧ Reads [0xCB, 0xCA] .set1D ∧
    Reads [0xCB, 0xCB] .set1E ∧ Reads [0xCB, 0xCC] .set1H ∧ Reads [0xCB, 0xCD] .set1L ∧
    Reads [0xCB, 0xCE] .set1AtHl ∧ Reads [0xCB, 0xCF] .set1A ∧ Reads [0xCB, 0xD0] .set2B ∧
    Reads [0xCB, 0xD1] .set2C ∧ Reads [0xCB, 0xD2] .set2D ∧ Reads [0xCB, 0xD3] .set2E ∧ Reads [0xCB, 0xD4] .set2H ∧
    Reads [0xCB, 0xD5] .set2L ∧ Reads [0xCB, 0xD6] .set2AtHl ∧ Reads [0xCB, 0xD7] .set2A ∧
    Reads [0xCB, 0xD8] .set3B ∧ Reads [0xCB, 0xD9] .set3C ∧ Reads [0xCB, 0xDA] .set3D ∧ Reads [0xCB, 0xDB] .set3E ∧
    Reads [0xCB, 0xDC] .set3H ∧ Reads [0xCB, 0xDD] .set3L ∧ Reads [0xCB, 0xDE] .set3AtHl ∧
    Reads [0xCB, 0xDF] .set3A ∧ Reads [0xCB, 0xE0] .set4B ∧ Reads [0xCB, 0xE1] .set4C ∧ Reads [0xCB, 0xE2] .set4D ∧
    Reads [0xCB, 0xE3] .set4E ∧ Reads [0xCB, 0xE4] .set4H ∧ Reads [0xCB, 0xE5] .set4L ∧
    Reads [0xCB, 0xE6] .set4AtHl ∧ Reads [0xCB, 0xE7] .set4A ∧ Reads [0xCB, 0xE8] .set5B ∧
    Reads [0xCB, 0xE9] .set5C ∧ Reads [0xCB, 0xEA] .set5D ∧ Reads [0xCB, 0xEB] .set5E ∧ Reads [0xCB, 0xEC] .set5H ∧
    Reads [0xCB, 0xED] .set5L ∧ Reads [0xCB, 0xEE] .set5AtHl ∧ Reads [0xCB, 0xEF] .set5A ∧
    Reads [0xCB, 0xF0] .set6B ∧ Reads [0xCB, 0xF1] .set6C ∧ Reads [0xCB, 0xF2] .set6D ∧ Reads [0xCB, 0xF3] .set6E ∧
    Reads [0xCB, 0xF4] .set6H ∧ Reads [0xCB, 0xF5] .set6L ∧ Reads [0xCB, 0xF6] .set6AtHl ∧
    Reads [0xCB, 0xF7] .set6A ∧ Reads [0xCB, 0xF8] .set7B ∧ Reads [0xCB, 0xF9] .set7C ∧ Reads [0xCB, 0xFA] .set7D ∧
    Reads [0xCB, 0xFB] .set7E ∧ Reads [0xCB, 0xFC] .set7H ∧ Reads [0xCB, 0xFD] .set7L ∧
    Reads [0xCB, 0xFE] .set7AtHl ∧ Reads [0xCB, 0xFF] .set7A ∧ Reads [0xED, 0xFF] (.nopStar 0xFF) ∧
    Reads [0xED, 0x40] .inBAtC ∧ Reads [0xED, 0x41] .outAtCB ∧ Reads [0xED, 0x42] .sbcHlBc := by
  and_intros <;> rfl

theorem test_words_08 :
    Reads [0xED, 0x43, 0xA5, 0x5C] (.ldAtNnBc 0x5CA5) ∧ Reads [0xED, 0x7C] (.neg 7) ∧ Reads [0xED, 0x7D] (.retn 7) ∧
    Reads [0xED, 0x6E] (.im0 5) ∧ Reads [0xED, 0x47] .ldIA ∧ Reads [0xED, 0x48] .inCAtC ∧
    Reads [0xED, 0x49] .outAtCC ∧ Reads [0xED, 0x4A] .adcHlBc ∧ Reads [0xED, 0x4B, 0xA5, 0x5C] (.ldBcAtNn 0x5CA5) ∧
    Reads [0xED, 0x4D] .reti ∧ Reads [0xED, 0x4F] .ldRA ∧ Reads [0xED, 0x50] .inDAtC ∧ Reads [0xED, 0x51] .outAtCD ∧
    Reads [0xED, 0x52] .sbcHlDe ∧ Reads [0xED, 0x53, 0xA5, 0x5C] (.ldAtNnDe 0x5CA5) ∧ Reads [0xED, 0x76] (.im1 6) ∧
    Reads [0xED, 0x57] .ldAI ∧ Reads [0xED, 0x58] .inEAtC ∧ Reads [0xED, 0x59] .outAtCE ∧
    Reads [0xED, 0x5A] .adcHlDe ∧ Reads [0xED, 0x5B, 0xA5, 0x5C] (.ldDeAtNn 0x5CA5) ∧ Reads [0xED, 0x7E] (.im2 7) ∧
    Reads [0xED, 0x5F] .ldAR ∧ Reads [0xED, 0x60] .inHAtC ∧ Reads [0xED, 0x61] .outAtCH ∧
    Reads [0xED, 0x62] .sbcHlHl ∧ Reads [0xED, 0x63, 0xA5, 0x5C] (.ldAtNnHlEd 0x5CA5) ∧ Reads [0xED, 0x67] .rrd ∧
    Reads [0xED, 0x68] .inLAtC ∧ Reads [0xED, 0x69] .outAtCL ∧ Reads [0xED, 0x6A] .adcHlHl ∧
    Reads [0xED, 0x6B, 0xA5, 0x5C] (.ldHlAtNnEd 0x5CA5) ∧ Reads [0xED, 0x6F] .rld ∧ Reads [0xED, 0x70] .inFAtC ∧
    Reads [0xED, 0x71] .outAtC0 ∧ Reads [0xED, 0x72] .sbcHlSp ∧ Reads [0xED, 0x73, 0xA5, 0x5C] (.ldAtNnSp 0x5CA5) ∧
    Reads [0xED, 0x78] .inAAtC ∧ Reads [0xED, 0x79] .outAtCA ∧ Reads [0xED, 0x7A] .adcHlSp ∧
    Reads [0xED, 0x7B, 0xA5, 0x5C] (.ldSpAtNn 0x5CA5) ∧ Reads [0xED, 0xA0] .ldi ∧ Reads [0xED, 0xA1] .cpi ∧
    Reads [0xED, 0xA2] .ini ∧ Reads [0xED, 0xA3] .outi ∧ Reads [0xED, 0xA8] .ldd ∧ Reads [0xED, 0xA9] .cpd ∧
    Reads [0xED, 0xAA] .ind ∧ Reads [0xED, 0xAB] .outd ∧ Reads [0xED, 0xB0] .ldir ∧ Reads [0xED, 0xB1] .cpir ∧
    Reads [0xED, 0xB2] .inir ∧ Reads [0xED, 0xB3] .otir ∧ Reads [0xED, 0xB8] .lddr ∧ Reads [0xED, 0xB9] .cpdr ∧
    Reads [0xED, 0xBA] .indr ∧ Reads [0xED, 0xBB] .otdr ∧ Reads [0xFD, 0x00] (.ignoredNop .iy) ∧
    Reads [0xDD, 0x01, 0xA5, 0x5C] (.ignoredLdBcNn .ix 0x5CA5) ∧ Reads [0xFD, 0x02] (.ignoredLdAtBcA .iy) ∧
    Reads [0xDD, 0x03] (.ignoredIncBc .ix) ∧ Reads [0xFD, 0x04] (.ignoredIncB .iy) ∧
    Reads [0xDD, 0x05] (.ignoredDecB .ix) ∧ Reads [0xFD, 0x06, 0xC3] (.ignoredLdBN .iy 0xC3) := by
  and_intros <;> rfl

theorem test_words_09 :
    Reads [0xDD, 0x07] (.ignoredRlca .ix) ∧ Reads [0xFD, 0x08] (.ignoredExAfAf .iy) ∧
    Reads [0xDD, 0x09] (.addIdxBc .ix) ∧ Reads [0xFD, 0x0A] (.ignoredLdAAtBc .iy) ∧
    Reads [0xDD, 0x0B] (.ignoredDecBc .ix) ∧ Reads [0xFD, 0x0C] (.ignoredIncC .iy) ∧
    Reads [0xDD, 0x0D] (.ignoredDecC .ix) ∧ Reads [0xFD, 0x0E, 0xC3] (.ignoredLdCN .iy 0xC3) ∧
    Reads [0xDD, 0x0F] (.ignoredRrca .ix) ∧ Reads [0xFD, 0x10, 0xFD] (.ignoredDjnzE .iy 0xFD) ∧
    Reads [0xDD, 0x11, 0xA5, 0x5C] (.ignoredLdDeNn .ix 0x5CA5) ∧ Reads [0xFD, 0x12] (.ignoredLdAtDeA .iy) ∧
    Reads [0xDD, 0x13] (.ignoredIncDe .ix) ∧ Reads [0xFD, 0x14] (.ignoredIncD .iy) ∧
    Reads [0xDD, 0x15] (.ignoredDecD .ix) ∧ Reads [0xFD, 0x16, 0xC3] (.ignoredLdDN .iy 0xC3) ∧
    Reads [0xDD, 0x17] (.ignoredRla .ix) ∧ Reads [0xFD, 0x18, 0xFD] (.ignoredJrE .iy 0xFD) ∧
    Reads [0xDD, 0x19] (.addIdxDe .ix) ∧ Reads [0xFD, 0x1A] (.ignoredLdAAtDe .iy) ∧
    Reads [0xDD, 0x1B] (.ignoredDecDe .ix) ∧ Reads [0xFD, 0x1C] (.ignoredIncE .iy) ∧
    Reads [0xDD, 0x1D] (.ignoredDecE .ix) ∧ Reads [0xFD, 0x1E, 0xC3] (.ignoredLdEN .iy 0xC3) ∧
    Reads [0xDD, 0x1F] (.ignoredRra .ix) ∧ Reads [0xFD, 0x20, 0xFD] (.ignoredJrNzE .iy 0xFD) ∧
    Reads [0xDD, 0x21, 0xA5, 0x5C] (.ldIdxNn .ix 0x5CA5) ∧ Reads [0xFD, 0x22, 0xA5, 0x5C] (.ldAtNnIdx .iy 0x5CA5) ∧
    Reads [0xDD, 0x23] (.incIdx .ix) ∧ Reads [0xFD, 0x24] (.incIdxH .iy) ∧ Reads [0xDD, 0x25] (.decIdxH .ix) ∧
    Reads [0xFD, 0x26, 0xC3] (.ldIdxHN .iy 0xC3) ∧ Reads [0xDD, 0x27] (.ignoredDaa .ix) ∧
    Reads [0xFD, 0x28, 0xFD] (.ignoredJrZE .iy 0xFD) ∧ Reads [0xDD, 0x29] (.addIdxIdx .ix) ∧
    Reads [0xFD, 0x2A, 0xA5, 0x5C] (.ldIdxAtNn .iy 0x5CA5) ∧ Reads [0xDD, 0x2B] (.decIdx .ix) ∧
    Reads [0xFD, 0x2C] (.incIdxL .iy) ∧ Reads [0xDD, 0x2D] (.decIdxL .ix) ∧
    Reads [0xFD, 0x2E, 0xC3] (.ldIdxLN .iy 0xC3) ∧ Reads [0xDD, 0x2F] (.ignoredCpl .ix) ∧
    Reads [0xFD, 0x30, 0xFD] (.ignoredJrNcE .iy 0xFD) ∧ Reads [0xDD, 0x31, 0xA5, 0x5C] (.ignoredLdSpNn .ix 0x5CA5) ∧
    Reads [0xFD, 0x32, 0xA5, 0x5C] (.ignoredLdAtNnA .iy 0x5CA5) ∧ Reads [0xDD, 0x33] (.ignoredIncSp .ix) ∧
    Reads [0xFD, 0x34, 0x81] (.incAtIdx .iy 0x81) ∧ Reads [0xDD, 0x35, 0x81] (.decAtIdx .ix 0x81) ∧
    Reads [0xFD, 0x36, 0x81, 0xC3] (.ldAtIdxN .iy 0x81 0xC3) ∧ Reads [0xDD, 0x37] (.ignoredScf .ix) ∧
    Reads [0xFD, 0x38, 0xFD] (.ignoredJrCE .iy 0xFD) ∧ Reads [0xDD, 0x39] (.addIdxSp .ix) ∧
    Reads [0xFD, 0x3A, 0xA5, 0x5C] (.ignoredLdAAtNn .iy 0x5CA5) ∧ Reads [0xDD, 0x3B] (.ignoredDecSp .ix) ∧
    Reads [0xFD, 0x3C] (.ignoredIncA .iy) ∧ Reads [0xDD, 0x3D] (.ignoredDecA .ix) ∧
    Reads [0xFD, 0x3E, 0xC3] (.ignoredLdAN .iy 0xC3) ∧ Reads [0xDD, 0x3F] (.ignoredCcf .ix) ∧
    Reads [0xFD, 0x40] (.ignoredLdBB .iy) ∧ Reads [0xDD, 0x41] (.ignoredLdBC .ix) ∧
    Reads [0xFD, 0x42] (.ignoredLdBD .iy) ∧ Reads [0xDD, 0x43] (.ignoredLdBE .ix) ∧
    Reads [0xFD, 0x44] (.ldBIdxH .iy) ∧ Reads [0xDD, 0x45] (.ldBIdxL .ix) ∧
    Reads [0xFD, 0x46, 0x81] (.ldBAtIdx .iy 0x81) := by
  and_intros <;> rfl

theorem test_words_10 :
    Reads [0xDD, 0x47] (.ignoredLdBA .ix) ∧ Reads [0xFD, 0x48] (.ignoredLdCB .iy) ∧
    Reads [0xDD, 0x49] (.ignoredLdCC .ix) ∧ Reads [0xFD, 0x4A] (.ignoredLdCD .iy) ∧
    Reads [0xDD, 0x4B] (.ignoredLdCE .ix) ∧ Reads [0xFD, 0x4C] (.ldCIdxH .iy) ∧ Reads [0xDD, 0x4D] (.ldCIdxL .ix) ∧
    Reads [0xFD, 0x4E, 0x81] (.ldCAtIdx .iy 0x81) ∧ Reads [0xDD, 0x4F] (.ignoredLdCA .ix) ∧
    Reads [0xFD, 0x50] (.ignoredLdDB .iy) ∧ Reads [0xDD, 0x51] (.ignoredLdDC .ix) ∧
    Reads [0xFD, 0x52] (.ignoredLdDD .iy) ∧ Reads [0xDD, 0x53] (.ignoredLdDE .ix) ∧
    Reads [0xFD, 0x54] (.ldDIdxH .iy) ∧ Reads [0xDD, 0x55] (.ldDIdxL .ix) ∧
    Reads [0xFD, 0x56, 0x81] (.ldDAtIdx .iy 0x81) ∧ Reads [0xDD, 0x57] (.ignoredLdDA .ix) ∧
    Reads [0xFD, 0x58] (.ignoredLdEB .iy) ∧ Reads [0xDD, 0x59] (.ignoredLdEC .ix) ∧
    Reads [0xFD, 0x5A] (.ignoredLdED .iy) ∧ Reads [0xDD, 0x5B] (.ignoredLdEE .ix) ∧
    Reads [0xFD, 0x5C] (.ldEIdxH .iy) ∧ Reads [0xDD, 0x5D] (.ldEIdxL .ix) ∧
    Reads [0xFD, 0x5E, 0x81] (.ldEAtIdx .iy 0x81) ∧ Reads [0xDD, 0x5F] (.ignoredLdEA .ix) ∧
    Reads [0xFD, 0x60] (.ldIdxHB .iy) ∧ Reads [0xDD, 0x61] (.ldIdxHC .ix) ∧ Reads [0xFD, 0x62] (.ldIdxHD .iy) ∧
    Reads [0xDD, 0x63] (.ldIdxHE .ix) ∧ Reads [0xFD, 0x64] (.ldIdxHIdxH .iy) ∧ Reads [0xDD, 0x65] (.ldIdxHIdxL .ix) ∧
    Reads [0xFD, 0x66, 0x81] (.ldHAtIdx .iy 0x81) ∧ Reads [0xDD, 0x67] (.ldIdxHA .ix) ∧
    Reads [0xFD, 0x68] (.ldIdxLB .iy) ∧ Reads [0xDD, 0x69] (.ldIdxLC .ix) ∧ Reads [0xFD, 0x6A] (.ldIdxLD .iy) ∧
    Reads [0xDD, 0x6B] (.ldIdxLE .ix) ∧ Reads [0xFD, 0x6C] (.ldIdxLIdxH .iy) ∧ Reads [0xDD, 0x6D] (.ldIdxLIdxL .ix) ∧
    Reads [0xFD, 0x6E, 0x81] (.ldLAtIdx .iy 0x81) ∧ Reads [0xDD, 0x6F] (.ldIdxLA .ix) ∧
    Reads [0xFD, 0x70, 0x81] (.ldAtIdxB .iy 0x81) ∧ Reads [0xDD, 0x71, 0x81] (.ldAtIdxC .ix 0x81) ∧
    Reads [0xFD, 0x72, 0x81] (.ldAtIdxD .iy 0x81) ∧ Reads [0xDD, 0x73, 0x81] (.ldAtIdxE .ix 0x81) ∧
    Reads [0xFD, 0x74, 0x81] (.ldAtIdxH .iy 0x81) ∧ Reads [0xDD, 0x75, 0x81] (.ldAtIdxL .ix 0x81) ∧
    Reads [0xFD, 0x76] (.ignoredHalt .iy) ∧ Reads [0xDD, 0x77, 0x81] (.ldAtIdxA .ix 0x81) ∧
    Reads [0xFD, 0x78] (.ignoredLdAB .iy) ∧ Reads [0xDD, 0x79] (.ignoredLdAC .ix) ∧
    Reads [0xFD, 0x7A] (.ignoredLdAD .iy) ∧ Reads [0xDD, 0x7B] (.ignoredLdAE .ix) ∧
    Reads [0xFD, 0x7C] (.ldAIdxH .iy) ∧ Reads [0xDD, 0x7D] (.ldAIdxL .ix) ∧
    Reads [0xFD, 0x7E, 0x81] (.ldAAtIdx .iy 0x81) ∧ Reads [0xDD, 0x7F] (.ignoredLdAA .ix) ∧
    Reads [0xFD, 0x80] (.ignoredAddAB .iy) ∧ Reads [0xDD, 0x81] (.ignoredAddAC .ix) ∧
    Reads [0xFD, 0x82] (.ignoredAddAD .iy) ∧ Reads [0xDD, 0x83] (.ignoredAddAE .ix) ∧
    Reads [0xFD, 0x84] (.addAIdxH .iy) ∧ Reads [0xDD, 0x85] (.addAIdxL .ix) ∧
    Reads [0xFD, 0x86, 0x81] (.addAAtIdx .iy 0x81) := by
  and_intros <;> rfl

theorem test_words_11 :
    Reads [0xDD, 0x87] (.ignoredAddAA .ix) ∧ Reads [0xFD, 0x88] (.ignoredAdcAB .iy) ∧
    Reads [0xDD, 0x89] (.ignoredAdcAC .ix) ∧ Reads [0xFD, 0x8A] (.ignoredAdcAD .iy) ∧
    Reads [0xDD, 0x8B] (.ignoredAdcAE .ix) ∧ Reads [0xFD, 0x8C] (.adcAIdxH .iy) ∧
    Reads [0xDD, 0x8D] (.adcAIdxL .ix) ∧ Reads [0xFD, 0x8E, 0x81] (.adcAAtIdx .iy 0x81) ∧
    Reads [0xDD, 0x8F] (.ignoredAdcAA .ix) ∧ Reads [0xFD, 0x90] (.ignoredSubB .iy) ∧
    Reads [0xDD, 0x91] (.ignoredSubC .ix) ∧ Reads [0xFD, 0x92] (.ignoredSubD .iy) ∧
    Reads [0xDD, 0x93] (.ignoredSubE .ix) ∧ Reads [0xFD, 0x94] (.subIdxH .iy) ∧ Reads [0xDD, 0x95] (.subIdxL .ix) ∧
    Reads [0xFD, 0x96, 0x81] (.subAtIdx .iy 0x81) ∧ Reads [0xDD, 0x97] (.ignoredSubA .ix) ∧
    Reads [0xFD, 0x98] (.ignoredSbcAB .iy) ∧ Reads [0xDD, 0x99] (.ignoredSbcAC .ix) ∧
    Reads [0xFD, 0x9A] (.ignoredSbcAD .iy) ∧ Reads [0xDD, 0x9B] (.ignoredSbcAE .ix) ∧
    Reads [0xFD, 0x9C] (.sbcAIdxH .iy) ∧ Reads [0xDD, 0x9D] (.sbcAIdxL .ix) ∧
    Reads [0xFD, 0x9E, 0x81] (.sbcAAtIdx .iy 0x81) ∧ Reads [0xDD, 0x9F] (.ignoredSbcAA .ix) ∧
    Reads [0xFD, 0xA0] (.ignoredAndB .iy) ∧ Reads [0xDD, 0xA1] (.ignoredAndC .ix) ∧
    Reads [0xFD, 0xA2] (.ignoredAndD .iy) ∧ Reads [0xDD, 0xA3] (.ignoredAndE .ix) ∧
    Reads [0xFD, 0xA4] (.andIdxH .iy) ∧ Reads [0xDD, 0xA5] (.andIdxL .ix) ∧
    Reads [0xFD, 0xA6, 0x81] (.andAtIdx .iy 0x81) ∧ Reads [0xDD, 0xA7] (.ignoredAndA .ix) ∧
    Reads [0xFD, 0xA8] (.ignoredXorB .iy) ∧ Reads [0xDD, 0xA9] (.ignoredXorC .ix) ∧
    Reads [0xFD, 0xAA] (.ignoredXorD .iy) ∧ Reads [0xDD, 0xAB] (.ignoredXorE .ix) ∧
    Reads [0xFD, 0xAC] (.xorIdxH .iy) ∧ Reads [0xDD, 0xAD] (.xorIdxL .ix) ∧
    Reads [0xFD, 0xAE, 0x81] (.xorAtIdx .iy 0x81) ∧ Reads [0xDD, 0xAF] (.ignoredXorA .ix) ∧
    Reads [0xFD, 0xB0] (.ignoredOrB .iy) ∧ Reads [0xDD, 0xB1] (.ignoredOrC .ix) ∧
    Reads [0xFD, 0xB2] (.ignoredOrD .iy) ∧ Reads [0xDD, 0xB3] (.ignoredOrE .ix) ∧ Reads [0xFD, 0xB4] (.orIdxH .iy) ∧
    Reads [0xDD, 0xB5] (.orIdxL .ix) ∧ Reads [0xFD, 0xB6, 0x81] (.orAtIdx .iy 0x81) ∧
    Reads [0xDD, 0xB7] (.ignoredOrA .ix) ∧ Reads [0xFD, 0xB8] (.ignoredCpB .iy) ∧
    Reads [0xDD, 0xB9] (.ignoredCpC .ix) ∧ Reads [0xFD, 0xBA] (.ignoredCpD .iy) ∧
    Reads [0xDD, 0xBB] (.ignoredCpE .ix) ∧ Reads [0xFD, 0xBC] (.cpIdxH .iy) ∧ Reads [0xDD, 0xBD] (.cpIdxL .ix) ∧
    Reads [0xFD, 0xBE, 0x81] (.cpAtIdx .iy 0x81) ∧ Reads [0xDD, 0xBF] (.ignoredCpA .ix) ∧
    Reads [0xFD, 0xC0] (.ignoredRetNz .iy) ∧ Reads [0xDD, 0xC1] (.ignoredPopBc .ix) ∧
    Reads [0xFD, 0xC2, 0xA5, 0x5C] (.ignoredJpNzNn .iy 0x5CA5) ∧
    Reads [0xDD, 0xC3, 0xA5, 0x5C] (.ignoredJpNn .ix 0x5CA5) ∧
    Reads [0xFD, 0xC4, 0xA5, 0x5C] (.ignoredCallNzNn .iy 0x5CA5) ∧ Reads [0xDD, 0xC5] (.ignoredPushBc .ix) ∧
    Reads [0xFD, 0xC6, 0xC3] (.ignoredAddAN .iy 0xC3) := by
  and_intros <;> rfl

theorem test_words_12 :
    Reads [0xDD, 0xC7] (.ignoredRst00 .ix) ∧ Reads [0xFD, 0xC8] (.ignoredRetZ .iy) ∧
    Reads [0xDD, 0xC9] (.ignoredRet .ix) ∧ Reads [0xFD, 0xCA, 0xA5, 0x5C] (.ignoredJpZNn .iy 0x5CA5) ∧
    Reads [0xDD, 0xCC, 0xA5, 0x5C] (.ignoredCallZNn .ix 0x5CA5) ∧
    Reads [0xFD, 0xCD, 0xA5, 0x5C] (.ignoredCallNn .iy 0x5CA5) ∧ Reads [0xDD, 0xCE, 0xC3] (.ignoredAdcAN .ix 0xC3) ∧
    Reads [0xFD, 0xCF] (.ignoredRst08 .iy) ∧ Reads [0xDD, 0xD0] (.ignoredRetNc .ix) ∧
    Reads [0xFD, 0xD1] (.ignoredPopDe .iy) ∧ Reads [0xDD, 0xD2, 0xA5, 0x5C] (.ignoredJpNcNn .ix 0x5CA5) ∧
    Reads [0xFD, 0xD3, 0xC3] (.ignoredOutAtNA .iy 0xC3) ∧
    Reads [0xDD, 0xD4, 0xA5, 0x5C] (.ignoredCallNcNn .ix 0x5CA5) ∧ Reads [0xFD, 0xD5] (.ignoredPushDe .iy) ∧
    Reads [0xDD, 0xD6, 0xC3] (.ignoredSubN .ix 0xC3) ∧ Reads [0xFD, 0xD7] (.ignoredRst10 .iy) ∧
    Reads [0xDD, 0xD8] (.ignoredRetC .ix) ∧ Reads [0xFD, 0xD9] (.ignoredExx .iy) ∧
    Reads [0xDD, 0xDA, 0xA5, 0x5C] (.ignoredJpCNn .ix 0x5CA5) ∧ Reads [0xFD, 0xDB, 0xC3] (.ignoredInAAtN .iy 0xC3) ∧
    Reads [0xDD, 0xDC, 0xA5, 0x5C] (.ignoredCallCNn .ix 0x5CA5) ∧ Reads [0xFD, 0xFD] (.redundantPrefix .iy .iy) ∧
    Reads [0xDD, 0xDE, 0xC3] (.ignoredSbcAN .ix 0xC3) ∧ Reads [0xFD, 0xDF] (.ignoredRst18 .iy) ∧
    Reads [0xDD, 0xE0] (.ignoredRetPo .ix) ∧ Reads [0xFD, 0xE1] (.popIdx .iy) ∧
    Reads [0xDD, 0xE2, 0xA5, 0x5C] (.ignoredJpPoNn .ix 0x5CA5) ∧ Reads [0xFD, 0xE3] (.exAtSpIdx .iy) ∧
    Reads [0xDD, 0xE4, 0xA5, 0x5C] (.ignoredCallPoNn .ix 0x5CA5) ∧ Reads [0xFD, 0xE5] (.pushIdx .iy) ∧
    Reads [0xDD, 0xE6, 0xC3] (.ignoredAndN .ix 0xC3) ∧ Reads [0xFD, 0xE7] (.ignoredRst20 .iy) ∧
    Reads [0xDD, 0xE8] (.ignoredRetPe .ix) ∧ Reads [0xFD, 0xE9] (.jpAtIdx .iy) ∧
    Reads [0xDD, 0xEA, 0xA5, 0x5C] (.ignoredJpPeNn .ix 0x5CA5) ∧ Reads [0xFD, 0xEB] (.ignoredExDeHl .iy) ∧
    Reads [0xDD, 0xEC, 0xA5, 0x5C] (.ignoredCallPeNn .ix 0x5CA5) ∧
    Reads [0xFD, 0xED, 0x43, 0xA5, 0x5C] (.ignoredEd .iy (.stPair 0x5CA5 .bc)) ∧
    Reads [0xDD, 0xEE, 0xC3] (.ignoredXorN .ix 0xC3) ∧ Reads [0xFD, 0xEF] (.ignoredRst28 .iy) ∧
    Reads [0xDD, 0xF0] (.ignoredRetP .ix) ∧ Reads [0xFD, 0xF1] (.ignoredPopAf .iy) ∧
    Reads [0xDD, 0xF2, 0xA5, 0x5C] (.ignoredJpPNn .ix 0x5CA5) ∧ Reads [0xFD, 0xF3] (.ignoredDi .iy) ∧
    Reads [0xDD, 0xF4, 0xA5, 0x5C] (.ignoredCallPNn .ix 0x5CA5) ∧ Reads [0xFD, 0xF5] (.ignoredPushAf .iy) ∧
    Reads [0xDD, 0xF6, 0xC3] (.ignoredOrN .ix 0xC3) ∧ Reads [0xFD, 0xF7] (.ignoredRst30 .iy) ∧
    Reads [0xDD, 0xF8] (.ignoredRetM .ix) ∧ Reads [0xFD, 0xF9] (.ldSpIdx .iy) ∧
    Reads [0xDD, 0xFA, 0xA5, 0x5C] (.ignoredJpMNn .ix 0x5CA5) ∧ Reads [0xFD, 0xFB] (.ignoredEi .iy) ∧
    Reads [0xDD, 0xFC, 0xA5, 0x5C] (.ignoredCallMNn .ix 0x5CA5) ∧ Reads [0xFD, 0xFE, 0xC3] (.ignoredCpN .iy 0xC3) ∧
    Reads [0xDD, 0xFF] (.ignoredRst38 .ix) ∧ Reads [0xFD, 0xCB, 0x81, 0x00] (.rlcAtIdxB .iy 0x81) ∧
    Reads [0xDD, 0xCB, 0x81, 0x01] (.rlcAtIdxC .ix 0x81) ∧ Reads [0xFD, 0xCB, 0x81, 0x02] (.rlcAtIdxD .iy 0x81) ∧
    Reads [0xDD, 0xCB, 0x81, 0x03] (.rlcAtIdxE .ix 0x81) ∧ Reads [0xFD, 0xCB, 0x81, 0x04] (.rlcAtIdxH .iy 0x81) ∧
    Reads [0xDD, 0xCB, 0x81, 0x05] (.rlcAtIdxL .ix 0x81) ∧ Reads [0xFD, 0xCB, 0x81, 0x06] (.rlcAtIdx .iy 0x81) ∧
    Reads [0xDD, 0xCB, 0x81, 0x07] (.rlcAtIdxA .ix 0x81) ∧ Reads [0xFD, 0xCB, 0x81, 0x08] (.rrcAtIdxB .iy 0x81) := by
  and_intros <;> rfl

theorem test_words_13 :
    Reads [0xDD, 0xCB, 0x81, 0x09] (.rrcAtIdxC .ix 0x81) ∧ Reads [0xFD, 0xCB, 0x81, 0x0A] (.rrcAtIdxD .iy 0x81) ∧
    Reads [0xDD, 0xCB, 0x81, 0x0B] (.rrcAtIdxE .ix 0x81) ∧ Reads [0xFD, 0xCB, 0x81, 0x0C] (.rrcAtIdxH .iy 0x81) ∧
    Reads [0xDD, 0xCB, 0x81, 0x0D] (.rrcAtIdxL .ix 0x81) ∧ Reads [0xFD, 0xCB, 0x81, 0x0E] (.rrcAtIdx .iy 0x81) ∧
    Reads [0xDD, 0xCB, 0x81, 0x0F] (.rrcAtIdxA .ix 0x81) ∧ Reads [0xFD, 0xCB, 0x81, 0x10] (.rlAtIdxB .iy 0x81) ∧
    Reads [0xDD, 0xCB, 0x81, 0x11] (.rlAtIdxC .ix 0x81) ∧ Reads [0xFD, 0xCB, 0x81, 0x12] (.rlAtIdxD .iy 0x81) ∧
    Reads [0xDD, 0xCB, 0x81, 0x13] (.rlAtIdxE .ix 0x81) ∧ Reads [0xFD, 0xCB, 0x81, 0x14] (.rlAtIdxH .iy 0x81) ∧
    Reads [0xDD, 0xCB, 0x81, 0x15] (.rlAtIdxL .ix 0x81) ∧ Reads [0xFD, 0xCB, 0x81, 0x16] (.rlAtIdx .iy 0x81) ∧
    Reads [0xDD, 0xCB, 0x81, 0x17] (.rlAtIdxA .ix 0x81) ∧ Reads [0xFD, 0xCB, 0x81, 0x18] (.rrAtIdxB .iy 0x81) ∧
    Reads [0xDD, 0xCB, 0x81, 0x19] (.rrAtIdxC .ix 0x81) ∧ Reads [0xFD, 0xCB, 0x81, 0x1A] (.rrAtIdxD .iy 0x81) ∧
    Reads [0xDD, 0xCB, 0x81, 0x1B] (.rrAtIdxE .ix 0x81) ∧ Reads [0xFD, 0xCB, 0x81, 0x1C] (.rrAtIdxH .iy 0x81) ∧
    Reads [0xDD, 0xCB, 0x81, 0x1D] (.rrAtIdxL .ix 0x81) ∧ Reads [0xFD, 0xCB, 0x81, 0x1E] (.rrAtIdx .iy 0x81) ∧
    Reads [0xDD, 0xCB, 0x81, 0x1F] (.rrAtIdxA .ix 0x81) ∧ Reads [0xFD, 0xCB, 0x81, 0x20] (.slaAtIdxB .iy 0x81) ∧
    Reads [0xDD, 0xCB, 0x81, 0x21] (.slaAtIdxC .ix 0x81) ∧ Reads [0xFD, 0xCB, 0x81, 0x22] (.slaAtIdxD .iy 0x81) ∧
    Reads [0xDD, 0xCB, 0x81, 0x23] (.slaAtIdxE .ix 0x81) ∧ Reads [0xFD, 0xCB, 0x81, 0x24] (.slaAtIdxH .iy 0x81) ∧
    Reads [0xDD, 0xCB, 0x81, 0x25] (.slaAtIdxL .ix 0x81) ∧ Reads [0xFD, 0xCB, 0x81, 0x26] (.slaAtIdx .iy 0x81) ∧
    Reads [0xDD, 0xCB, 0x81, 0x27] (.slaAtIdxA .ix 0x81) ∧ Reads [0xFD, 0xCB, 0x81, 0x28] (.sraAtIdxB .iy 0x81) ∧
    Reads [0xDD, 0xCB, 0x81, 0x29] (.sraAtIdxC .ix 0x81) ∧ Reads [0xFD, 0xCB, 0x81, 0x2A] (.sraAtIdxD .iy 0x81) ∧
    Reads [0xDD, 0xCB, 0x81, 0x2B] (.sraAtIdxE .ix 0x81) ∧ Reads [0xFD, 0xCB, 0x81, 0x2C] (.sraAtIdxH .iy 0x81) ∧
    Reads [0xDD, 0xCB, 0x81, 0x2D] (.sraAtIdxL .ix 0x81) ∧ Reads [0xFD, 0xCB, 0x81, 0x2E] (.sraAtIdx .iy 0x81) ∧
    Reads [0xDD, 0xCB, 0x81, 0x2F] (.sraAtIdxA .ix 0x81) ∧ Reads [0xFD, 0xCB, 0x81, 0x30] (.sllAtIdxB .iy 0x81) ∧
    Reads [0xDD, 0xCB, 0x81, 0x31] (.sllAtIdxC .ix 0x81) ∧ Reads [0xFD, 0xCB, 0x81, 0x32] (.sllAtIdxD .iy 0x81) ∧
    Reads [0xDD, 0xCB, 0x81, 0x33] (.sllAtIdxE .ix 0x81) ∧ Reads [0xFD, 0xCB, 0x81, 0x34] (.sllAtIdxH .iy 0x81) ∧
    Reads [0xDD, 0xCB, 0x81, 0x35] (.sllAtIdxL .ix 0x81) ∧ Reads [0xFD, 0xCB, 0x81, 0x36] (.sllAtIdx .iy 0x81) ∧
    Reads [0xDD, 0xCB, 0x81, 0x37] (.sllAtIdxA .ix 0x81) ∧ Reads [0xFD, 0xCB, 0x81, 0x38] (.srlAtIdxB .iy 0x81) ∧
    Reads [0xDD, 0xCB, 0x81, 0x39] (.srlAtIdxC .ix 0x81) ∧ Reads [0xFD, 0xCB, 0x81, 0x3A] (.srlAtIdxD .iy 0x81) ∧
    Reads [0xDD, 0xCB, 0x81, 0x3B] (.srlAtIdxE .ix 0x81) ∧ Reads [0xFD, 0xCB, 0x81, 0x3C] (.srlAtIdxH .iy 0x81) ∧
    Reads [0xDD, 0xCB, 0x81, 0x3D] (.srlAtIdxL .ix 0x81) ∧ Reads [0xFD, 0xCB, 0x81, 0x3E] (.srlAtIdx .iy 0x81) ∧
    Reads [0xDD, 0xCB, 0x81, 0x3F] (.srlAtIdxA .ix 0x81) ∧ Reads [0xFD, 0xCB, 0x81, 0x47] (.bit0AtIdx .iy 0x81 7) ∧
    Reads [0xDD, 0xCB, 0x81, 0x4F] (.bit1AtIdx .ix 0x81 7) ∧ Reads [0xFD, 0xCB, 0x81, 0x57] (.bit2AtIdx .iy 0x81 7) ∧
    Reads [0xDD, 0xCB, 0x81, 0x5F] (.bit3AtIdx .ix 0x81 7) ∧ Reads [0xFD, 0xCB, 0x81, 0x67] (.bit4AtIdx .iy 0x81 7) ∧
    Reads [0xDD, 0xCB, 0x81, 0x6F] (.bit5AtIdx .ix 0x81 7) ∧ Reads [0xFD, 0xCB, 0x81, 0x77] (.bit6AtIdx .iy 0x81 7) ∧
    Reads [0xDD, 0xCB, 0x81, 0x7F] (.bit7AtIdx .ix 0x81 7) ∧ Reads [0xFD, 0xCB, 0x81, 0x80] (.res0AtIdxB .iy 0x81) := by
  and_intros <;> rfl

theorem test_words_14 :
    Reads [0xDD, 0xCB, 0x81, 0x81] (.res0AtIdxC .ix 0x81) ∧ Reads [0xFD, 0xCB, 0x81, 0x82] (.res0AtIdxD .iy 0x81) ∧
    Reads [0xDD, 0xCB, 0x81, 0x83] (.res0AtIdxE .ix 0x81) ∧ Reads [0xFD, 0xCB, 0x81, 0x84] (.res0AtIdxH .iy 0x81) ∧
    Reads [0xDD, 0xCB, 0x81, 0x85] (.res0AtIdxL .ix 0x81) ∧ Reads [0xFD, 0xCB, 0x81, 0x86] (.res0AtIdx .iy 0x81) ∧
    Reads [0xDD, 0xCB, 0x81, 0x87] (.res0AtIdxA .ix 0x81) ∧ Reads [0xFD, 0xCB, 0x81, 0x88] (.res1AtIdxB .iy 0x81) ∧
    Reads [0xDD, 0xCB, 0x81, 0x89] (.res1AtIdxC .ix 0x81) ∧ Reads [0xFD, 0xCB, 0x81, 0x8A] (.res1AtIdxD .iy 0x81) ∧
    Reads [0xDD, 0xCB, 0x81, 0x8B] (.res1AtIdxE .ix 0x81) ∧ Reads [0xFD, 0xCB, 0x81, 0x8C] (.res1AtIdxH .iy 0x81) ∧
    Reads [0xDD, 0xCB, 0x81, 0x8D] (.res1AtIdxL .ix 0x81) ∧ Reads [0xFD, 0xCB, 0x81, 0x8E] (.res1AtIdx .iy 0x81) ∧
    Reads [0xDD, 0xCB, 0x81, 0x8F] (.res1AtIdxA .ix 0x81) ∧ Reads [0xFD, 0xCB, 0x81, 0x90] (.res2AtIdxB .iy 0x81) ∧
    Reads [0xDD, 0xCB, 0x81, 0x91] (.res2AtIdxC .ix 0x81) ∧ Reads [0xFD, 0xCB, 0x81, 0x92] (.res2AtIdxD .iy 0x81) ∧
    Reads [0xDD, 0xCB, 0x81, 0x93] (.res2AtIdxE .ix 0x81) ∧ Reads [0xFD, 0xCB, 0x81, 0x94] (.res2AtIdxH .iy 0x81) ∧
    Reads [0xDD, 0xCB, 0x81, 0x95] (.res2AtIdxL .ix 0x81) ∧ Reads [0xFD, 0xCB, 0x81, 0x96] (.res2AtIdx .iy 0x81) ∧
    Reads [0xDD, 0xCB, 0x81, 0x97] (.res2AtIdxA .ix 0x81) ∧ Reads [0xFD, 0xCB, 0x81, 0x98] (.res3AtIdxB .iy 0x81) ∧
    Reads [0xDD, 0xCB, 0x81, 0x99] (.res3AtIdxC .ix 0x81) ∧ Reads [0xFD, 0xCB, 0x81, 0x9A] (.res3AtIdxD .iy 0x81) ∧
    Reads [0xDD, 0xCB, 0x81, 0x9B] (.res3AtIdxE .ix 0x81) ∧ Reads [0xFD, 0xCB, 0x81, 0x9C] (.res3AtIdxH .iy 0x81) ∧
    Reads [0xDD, 0xCB, 0x81, 0x9D] (.res3AtIdxL .ix 0x81) ∧ Reads [0xFD, 0xCB, 0x81, 0x9E] (.res3AtIdx .iy 0x81) ∧
    Reads [0xDD, 0xCB, 0x81, 0x9F] (.res3AtIdxA .ix 0x81) ∧ Reads [0xFD, 0xCB, 0x81, 0xA0] (.res4AtIdxB .iy 0x81) ∧
    Reads [0xDD, 0xCB, 0x81, 0xA1] (.res4AtIdxC .ix 0x81) ∧ Reads [0xFD, 0xCB, 0x81, 0xA2] (.res4AtIdxD .iy 0x81) ∧
    Reads [0xDD, 0xCB, 0x81, 0xA3] (.res4AtIdxE .ix 0x81) ∧ Reads [0xFD, 0xCB, 0x81, 0xA4] (.res4AtIdxH .iy 0x81) ∧
    Reads [0xDD, 0xCB, 0x81, 0xA5] (.res4AtIdxL .ix 0x81) ∧ Reads [0xFD, 0xCB, 0x81, 0xA6] (.res4AtIdx .iy 0x81) ∧
    Reads [0xDD, 0xCB, 0x81, 0xA7] (.res4AtIdxA .ix 0x81) ∧ Reads [0xFD, 0xCB, 0x81, 0xA8] (.res5AtIdxB .iy 0x81) ∧
    Reads [0xDD, 0xCB, 0x81, 0xA9] (.res5AtIdxC .ix 0x81) ∧ Reads [0xFD, 0xCB, 0x81, 0xAA] (.res5AtIdxD .iy 0x81) ∧
    Reads [0xDD, 0xCB, 0x81, 0xAB] (.res5AtIdxE .ix 0x81) ∧ Reads [0xFD, 0xCB, 0x81, 0xAC] (.res5AtIdxH .iy 0x81) ∧
    Reads [0xDD, 0xCB, 0x81, 0xAD] (.res5AtIdxL .ix 0x81) ∧ Reads [0xFD, 0xCB, 0x81, 0xAE] (.res5AtIdx .iy 0x81) ∧
    Reads [0xDD, 0xCB, 0x81, 0xAF] (.res5AtIdxA .ix 0x81) ∧ Reads [0xFD, 0xCB, 0x81, 0xB0] (.res6AtIdxB .iy 0x81) ∧
    Reads [0xDD, 0xCB, 0x81, 0xB1] (.res6AtIdxC .ix 0x81) ∧ Reads [0xFD, 0xCB, 0x81, 0xB2] (.res6AtIdxD .iy 0x81) ∧
    Reads [0xDD, 0xCB, 0x81, 0xB3] (.res6AtIdxE .ix 0x81) ∧ Reads [0xFD, 0xCB, 0x81, 0xB4] (.res6AtIdxH .iy 0x81) ∧
    Reads [0xDD, 0xCB, 0x81, 0xB5] (.res6AtIdxL .ix 0x81) ∧ Reads [0xFD, 0xCB, 0x81, 0xB6] (.res6AtIdx .iy 0x81) ∧
    Reads [0xDD, 0xCB, 0x81, 0xB7] (.res6AtIdxA .ix 0x81) ∧ Reads [0xFD, 0xCB, 0x81, 0xB8] (.res7AtIdxB .iy 0x81) ∧
    Reads [0xDD, 0xCB, 0x81, 0xB9] (.res7AtIdxC .ix 0x81) ∧ Reads [0xFD, 0xCB, 0x81, 0xBA] (.res7AtIdxD .iy 0x81) ∧
    Reads [0xDD, 0xCB, 0x81, 0xBB] (.res7AtIdxE .ix 0x81) ∧ Reads [0xFD, 0xCB, 0x81, 0xBC] (.res7AtIdxH .iy 0x81) ∧
    Reads [0xDD, 0xCB, 0x81, 0xBD] (.res7AtIdxL .ix 0x81) ∧ Reads [0xFD, 0xCB, 0x81, 0xBE] (.res7AtIdx .iy 0x81) ∧
    Reads [0xDD, 0xCB, 0x81, 0xBF] (.res7AtIdxA .ix 0x81) ∧ Reads [0xFD, 0xCB, 0x81, 0xC0] (.set0AtIdxB .iy 0x81) := by
  and_intros <;> rfl

theorem test_words_15 :
    Reads [0xDD, 0xCB, 0x81, 0xC1] (.set0AtIdxC .ix 0x81) ∧ Reads [0xFD, 0xCB, 0x81, 0xC2] (.set0AtIdxD .iy 0x81) ∧
    Reads [0xDD, 0xCB, 0x81, 0xC3] (.set0AtIdxE .ix 0x81) ∧ Reads [0xFD, 0xCB, 0x81, 0xC4] (.set0AtIdxH .iy 0x81) ∧
    Reads [0xDD, 0xCB, 0x81, 0xC5] (.set0AtIdxL .ix 0x81) ∧ Reads [0xFD, 0xCB, 0x81, 0xC6] (.set0AtIdx .iy 0x81) ∧
    Reads [0xDD, 0xCB, 0x81, 0xC7] (.set0AtIdxA .ix 0x81) ∧ Reads [0xFD, 0xCB, 0x81, 0xC8] (.set1AtIdxB .iy 0x81) ∧
    Reads [0xDD, 0xCB, 0x81, 0xC9] (.set1AtIdxC .ix 0x81) ∧ Reads [0xFD, 0xCB, 0x81, 0xCA] (.set1AtIdxD .iy 0x81) ∧
    Reads [0xDD, 0xCB, 0x81, 0xCB] (.set1AtIdxE .ix 0x81) ∧ Reads [0xFD, 0xCB, 0x81, 0xCC] (.set1AtIdxH .iy 0x81) ∧
    Reads [0xDD, 0xCB, 0x81, 0xCD] (.set1AtIdxL .ix 0x81) ∧ Reads [0xFD, 0xCB, 0x81, 0xCE] (.set1AtIdx .iy 0x81) ∧
    Reads [0xDD, 0xCB, 0x81, 0xCF] (.set1AtIdxA .ix 0x81) ∧ Reads [0xFD, 0xCB, 0x81, 0xD0] (.set2AtIdxB .iy 0x81) ∧
    Reads [0xDD, 0xCB, 0x81, 0xD1] (.set2AtIdxC .ix 0x81) ∧ Reads [0xFD, 0xCB, 0x81, 0xD2] (.set2AtIdxD .iy 0x81) ∧
    Reads [0xDD, 0xCB, 0x81, 0xD3] (.set2AtIdxE .ix 0x81) ∧ Reads [0xFD, 0xCB, 0x81, 0xD4] (.set2AtIdxH .iy 0x81) ∧
    Reads [0xDD, 0xCB, 0x81, 0xD5] (.set2AtIdxL .ix 0x81) ∧ Reads [0xFD, 0xCB, 0x81, 0xD6] (.set2AtIdx .iy 0x81) ∧
    Reads [0xDD, 0xCB, 0x81, 0xD7] (.set2AtIdxA .ix 0x81) ∧ Reads [0xFD, 0xCB, 0x81, 0xD8] (.set3AtIdxB .iy 0x81) ∧
    Reads [0xDD, 0xCB, 0x81, 0xD9] (.set3AtIdxC .ix 0x81) ∧ Reads [0xFD, 0xCB, 0x81, 0xDA] (.set3AtIdxD .iy 0x81) ∧
    Reads [0xDD, 0xCB, 0x81, 0xDB] (.set3AtIdxE .ix 0x81) ∧ Reads [0xFD, 0xCB, 0x81, 0xDC] (.set3AtIdxH .iy 0x81) ∧
    Reads [0xDD, 0xCB, 0x81, 0xDD] (.set3AtIdxL .ix 0x81) ∧ Reads [0xFD, 0xCB, 0x81, 0xDE] (.set3AtIdx .iy 0x81) ∧
    Reads [0xDD, 0xCB, 0x81, 0xDF] (.set3AtIdxA .ix 0x81) ∧ Reads [0xFD, 0xCB, 0x81, 0xE0] (.set4AtIdxB .iy 0x81) ∧
    Reads [0xDD, 0xCB, 0x81, 0xE1] (.set4AtIdxC .ix 0x81) ∧ Reads [0xFD, 0xCB, 0x81, 0xE2] (.set4AtIdxD .iy 0x81) ∧
    Reads [0xDD, 0xCB, 0x81, 0xE3] (.set4AtIdxE .ix 0x81) ∧ Reads [0xFD, 0xCB, 0x81, 0xE4] (.set4AtIdxH .iy 0x81) ∧
    Reads [0xDD, 0xCB, 0x81, 0xE5] (.set4AtIdxL .ix 0x81) ∧ Reads [0xFD, 0xCB, 0x81, 0xE6] (.set4AtIdx .iy 0x81) ∧
    Reads [0xDD, 0xCB, 0x81, 0xE7] (.set4AtIdxA .ix 0x81) ∧ Reads [0xFD, 0xCB, 0x81, 0xE8] (.set5AtIdxB .iy 0x81) ∧
    Reads [0xDD, 0xCB, 0x81, 0xE9] (.set5AtIdxC .ix 0x81) ∧ Reads [0xFD, 0xCB, 0x81, 0xEA] (.set5AtIdxD .iy 0x81) ∧
    Reads [0xDD, 0xCB, 0x81, 0xEB] (.set5AtIdxE .ix 0x81) ∧ Reads [0xFD, 0xCB, 0x81, 0xEC] (.set5AtIdxH .iy 0x81) ∧
    Reads [0xDD, 0xCB, 0x81, 0xED] (.set5AtIdxL .ix 0x81) ∧ Reads [0xFD, 0xCB, 0x81, 0xEE] (.set5AtIdx .iy 0x81) ∧
    Reads [0xDD, 0xCB, 0x81, 0xEF] (.set5AtIdxA .ix 0x81) ∧ Reads [0xFD, 0xCB, 0x81, 0xF0] (.set6AtIdxB .iy 0x81) ∧
    Reads [0xDD, 0xCB, 0x81, 0xF1] (.set6AtIdxC .ix 0x81) ∧ Reads [0xFD, 0xCB, 0x81, 0xF2] (.set6AtIdxD .iy 0x81) ∧
    Reads [0xDD, 0xCB, 0x81, 0xF3] (.set6AtIdxE .ix 0x81) ∧ Reads [0xFD, 0xCB, 0x81, 0xF4] (.set6AtIdxH .iy 0x81) ∧
    Reads [0xDD, 0xCB, 0x81, 0xF5] (.set6AtIdxL .ix 0x81) ∧ Reads [0xFD, 0xCB, 0x81, 0xF6] (.set6AtIdx .iy 0x81) ∧
    Reads [0xDD, 0xCB, 0x81, 0xF7] (.set6AtIdxA .ix 0x81) ∧ Reads [0xFD, 0xCB, 0x81, 0xF8] (.set7AtIdxB .iy 0x81) ∧
    Reads [0xDD, 0xCB, 0x81, 0xF9] (.set7AtIdxC .ix 0x81) ∧ Reads [0xFD, 0xCB, 0x81, 0xFA] (.set7AtIdxD .iy 0x81) ∧
    Reads [0xDD, 0xCB, 0x81, 0xFB] (.set7AtIdxE .ix 0x81) ∧ Reads [0xFD, 0xCB, 0x81, 0xFC] (.set7AtIdxH .iy 0x81) ∧
    Reads [0xDD, 0xCB, 0x81, 0xFD] (.set7AtIdxL .ix 0x81) ∧ Reads [0xFD, 0xCB, 0x81, 0xFE] (.set7AtIdx .iy 0x81) ∧
    Reads [0xDD, 0xCB, 0x81, 0xFF] (.set7AtIdxA .ix 0x81) := by
  and_intros <;> rfl

end Sys2Proof.Tests
end

section
namespace Sys2Proof

/-! The instructions that reach more than a program computes with. -/

/-- The base instructions that reach the second bank or the control state (R130, R131, R261 to R263). -/
def BaseOp.isControl : BaseOp → Bool
  | .exAfAf | .exx | .halt | .di | .ei => true
  | _ => false

/-- The ED instructions that reach the control state (R110, R111, R241, R242, R264). -/
def EdOp.isControl : EdOp → Bool
  | .retn _ | .reti | .im _ _ | .ldIA | .ldRA => true
  | _ => false

/-- The operations that reach the second bank or the control state. -/
def Op.isControl : Op → Bool
  | .base o | .ignored _ o => o.isControl
  | .ed o | .ignoredEd _ o => o.isControl
  | .redundant _ _ => true
  | .cb _ | .idx _ _ | .idxCb _ _ _ => false

end Sys2Proof
end

section
/-! What an instruction leaves alone, said once over all operations. -/

namespace Sys2Proof.Machine

/-- What a program does not compute with: the second bank, I, R, the interrupt system, the latches, EI's delay, q, the
pending prefix, the parameters and the host's answers other than those of read_io. -/
structure Control where
  alt : Bank
  i : Byte
  r : Byte
  iff1 : Bool
  iff2 : Bool
  im : IntMode
  halted : Bool
  intLatch : Bool
  nmiLatch : Bool
  eiDelay : Bool
  pendingPrefix : Option Idx
  q : Bool
  params : Params
  pollAnswers : List Bool
  vectorAnswers : List Byte

/-- The control part of a state. -/
def State.control (s : State) : Control where
  alt := s.alt
  i := s.i
  r := s.r
  iff1 := s.iff1
  iff2 := s.iff2
  im := s.im
  halted := s.halted
  intLatch := s.intLatch
  nmiLatch := s.nmiLatch
  eiDelay := s.eiDelay
  pendingPrefix := s.pendingPrefix
  q := s.q
  params := s.params
  pollAnswers := s.pollAnswers
  vectorAnswers := s.vectorAnswers

@[simp] theorem State.setReg_control (s : State) (k : Reg8) (v : Byte) : (s.setReg k v).control = s.control := rfl
@[simp] theorem State.setA_control (s : State) (v : Byte) : (s.setA v).control = s.control := rfl
@[simp] theorem State.setB_control (s : State) (v : Byte) : (s.setB v).control = s.control := rfl
@[simp] theorem State.setF_control (s : State) (v : Byte) : (s.setF v).control = s.control := rfl
@[simp] theorem State.setBc_control (s : State) (v : Word) : (s.setBc v).control = s.control := rfl
@[simp] theorem State.setDe_control (s : State) (v : Word) : (s.setDe v).control = s.control := rfl
@[simp] theorem State.setHl_control (s : State) (v : Word) : (s.setHl v).control = s.control := rfl
@[simp] theorem State.setAf_control (s : State) (v : Word) : (s.setAf v).control = s.control := rfl
@[simp] theorem State.setSp_control (s : State) (v : Word) : (s.setSp v).control = s.control := rfl
@[simp] theorem State.setPc_control (s : State) (v : Word) : (s.setPc v).control = s.control := rfl
@[simp] theorem State.setMemptr_control (s : State) (v : Word) : (s.setMemptr v).control = s.control := rfl
@[simp] theorem State.took_control (s : State) (n : Nat) : (s.took n).control = s.control := rfl
@[simp] theorem State.addCycles_control (s : State) (n : Nat) : (s.addCycles n).control = s.control := rfl
@[simp] theorem State.log_control (s : State) (c : BusCall) : (s.log c).control = s.control := rfl
@[simp] theorem State.poke_control (s : State) (a : Word) (v : Byte) : (s.poke a v).control = s.control := rfl
@[simp] theorem State.nextIo_control (s : State) : (s.nextIo).control = s.control := rfl
@[simp] theorem State.writeIo_control (s : State) (p : Word) (v : Byte) : (s.writeIo p v).control = s.control := rfl

@[simp] theorem State.jump_control (s : State) (w : Word) : (s.jump w).control = s.control := by
  simp [State.jump]

@[simp] theorem State.writeMem_control (s : State) (a : Word) (v : Byte) : (s.writeMem a v).control = s.control := by
  simp [State.writeMem]

@[simp] theorem State.writeMem16_control (s : State) (a w : Word) : (s.writeMem16 a w).control = s.control := by
  simp [State.writeMem16]

@[simp] theorem State.push16_control (s : State) (w : Word) : (s.push16 w).control = s.control := by
  simp [State.push16]

@[simp] theorem State.alu_control (s : State) (k : Alu) (v : Byte) : (s.alu k v).control = s.control := by
  simp [State.alu]

@[simp] theorem State.rotateA_control (s : State) (k : Rot) : (s.rotateA k).control = s.control := by
  simp [State.rotateA]

@[simp] theorem State.setPair_control (s : State) (p : Pair) (v : Word) : (s.setPair p v).control = s.control := by
  cases p <;> simp [State.setPair]

@[simp] theorem State.setStackPair_control (s : State) (q : StackPair) (v : Word) :
    (s.setStackPair q v).control = s.control := by
  cases q <;> simp [State.setStackPair]

@[simp] theorem State.setIdx_control (s : State) (ii : Idx) (v : Word) : (s.setIdx ii v).control = s.control := by
  cases ii <;> rfl

@[simp] theorem State.setHalf_control (s : State) (ii : Idx) (x : Half) (v : Byte) :
    (s.setHalf ii x v).control = s.control := by
  cases x <;> simp [State.setHalf]

@[simp] theorem State.setIdxReg_control (s : State) (ii : Idx) (r : Reg8) (v : Byte) :
    (s.setIdxReg ii r v).control = s.control := by
  cases r <;> simp [State.setIdxReg]

@[simp] theorem State.copyTo_control (s : State) (copy : Option Reg8) (v : Byte) :
    (s.copyTo copy v).control = s.control := by
  cases copy <;> simp [State.copyTo]

@[simp] theorem State.modify_control (s : State) (a : Word) (f : Byte → Byte) :
    (s.modify a f).control = s.control := by
  simp [State.modify, State.readMem_eq]

@[simp] theorem State.modifyF_control (s : State) (a : Word) (f g : Byte → Byte) :
    (s.modifyF a f g).control = s.control := by
  simp [State.modifyF, State.readMem_eq]

@[simp] theorem State.repeatBlock_control (s : State) (g : Byte → Byte) : (s.repeatBlock g).control = s.control := by
  simp [State.repeatBlock]

@[simp] theorem State.repeatIo_control (s : State) (rep : Bool) (t : Byte) :
    (s.repeatIo rep t).control = s.control := by
  unfold State.repeatIo
  split <;> simp

/-! The families of operations. -/

theorem runBase_control (o : BaseOp) (s : State) (h : o.isControl = false) :
    (runBase o s).control = s.control := by
  cases o
  case exAfAf | exx | halt | di | ei => cases h
  case djnz | jrCc | jpCc | callCc | retCc =>
    simp only [runBase, doDjnz, doJrCc, doJpCc, doCallCc, doRetCc, State.pop16, State.readMem_eq]
    split <;> simp
  case exDeHl => rfl
  all_goals
    simp [runBase, doNop, doJr, doLdPairN, doAddHl, doStA, doLdA, doStHl, doLdHl, doStAAbs, doLdAAbs, doIncPair,
      doDecPair, doIncReg, doIncMem, doDecReg, doDecMem, doLdRegN, doLdMemN, doRlca, doRrca, doRla, doRra, doDaa, doCpl,
      doScf, doCcf, doLdRegReg, doLdRegMem, doLdMemReg, doAluReg, doAluMem, doAluN, doPop, doPush, doRet, doJpHl,
      doLdSpHl, doJp, doOutNA, doInAN, doExSpHl, doCall, doRst,
      State.pop16, State.exchangeTop, State.readMem_eq, State.readMem16_eq, State.readIo_eq]

theorem runCb_control (o : CbOp) (s : State) : (runCb o s).control = s.control := by
  cases o <;>
    simp [runCb, doRotReg, doRotMem, doBitReg, doBitMem, doResReg, doResMem, doSetReg, doSetMem,
      State.readMem_eq]

theorem runEd_control (o : EdOp) (s : State) (h : o.isControl = false) : (runEd o s).control = s.control := by
  cases o
  case retn | reti | im | ldIA | ldRA => cases h
  case blockLd | blockCp =>
    simp only [runEd, doBlockLd, doBlockCp, State.readMem_eq]
    split <;> simp
  all_goals
    simp [runEd, doInReg, doInF, doOutReg, doOutZero, doSbcHl, doAdcHl, doStPair, doLdPair, doNeg, doLdAI, doLdAR, doRrd,
      doRld, doBlockIn, doBlockOut, doNopStar, State.readMem_eq, State.readMem16_eq, State.readIo_eq]

theorem runIdx_control (ii : Idx) (o : IdxOp) (s : State) : (runIdx ii o s).control = s.control := by
  cases o <;>
    simp [runIdx, doIdxAdd, doIdxLdN, doIdxSt, doIdxLd, doIdxInc, doIdxDec, doIdxIncHalf, doIdxDecHalf, doIdxLdHalfN,
      doIdxIncMem, doIdxDecMem, doIdxLdMemN, doIdxLdRegReg, doIdxLdRegMem, doIdxLdMemReg, doIdxAluHalf, doIdxAluMem,
      doIdxPop, doIdxPush, doIdxExSp, doIdxJp, doIdxLdSp, State.indexed, State.pop16, State.exchangeTop,
      State.readMem_eq, State.readMem16_eq]

theorem runIdxCb_control (ii : Idx) (d : Byte) (o : IdxCbOp) (s : State) :
    (runIdxCb ii d o s).control = s.control := by
  cases o <;> simp [runIdxCb, doIdxRot, doIdxBit, doIdxRes, doIdxSet, State.indexed, State.readMem_eq]

/-- An instruction that is none of the control instructions leaves the second bank and the control state alone. -/
theorem runOp_control (o : Op) (s : State) (h : o.isControl = false) : (runOp o s).control = s.control := by
  cases o
  case base o => exact runBase_control o s h
  case cb o => exact runCb_control o s
  case ed o => exact runEd_control o s h
  case idx ii o => exact runIdx_control ii o s
  case idxCb ii d o => exact runIdxCb_control ii d o s
  case ignored o => simp [runOp, ignorePrefix, runBase_control o s h]
  case ignoredEd o => simp [runOp, ignorePrefix, runEd_control o s h]
  case redundant => cases h

end Sys2Proof.Machine
end

section
/-! Which instructions write R, and which F. -/

namespace Sys2Proof.Machine

theorem runBase_r (o : BaseOp) (s : State) : (runBase o s).r = s.r := by
  cases hc : o.isControl
  case false => exact congrArg Control.r (runBase_control o s hc)
  case true =>
    cases o
    case exAfAf | exx | halt | di | ei => rfl
    all_goals cases hc

theorem runEd_r (o : EdOp) (s : State) (h : o ≠ .ldRA) : (runEd o s).r = s.r := by
  cases hc : o.isControl
  case false => exact congrArg Control.r (runEd_control o s hc)
  case true =>
    cases o
    case ldRA => exact absurd rfl h
    case retn | reti => simp [runEd, doRetn, doReti, returnFromInterrupt_eq]
    case im | ldIA => rfl
    all_goals cases hc

/-- Only LD R,A writes R (R30, R111). -/
theorem runOp_r (o : Op) (s : State) (h : o ≠ .ed .ldRA) (h' : ∀ ii, o ≠ .ignoredEd ii .ldRA) :
    (runOp o s).r = s.r := by
  cases o
  case base o => exact runBase_r o s
  case cb o => exact congrArg Control.r (runCb_control o s)
  case ed o => exact runEd_r o s fun e => h (e ▸ rfl)
  case idx ii o => exact congrArg Control.r (runIdx_control ii o s)
  case idxCb ii d o => exact congrArg Control.r (runIdxCb_control ii d o s)
  case ignored o => exact runBase_r o s
  case ignoredEd ii o => exact runEd_r o s fun e => h' ii (e ▸ rfl)
  case redundant => rfl

/-! F. -/

@[simp] theorem State.setPair_f (s : State) (p : Pair) (v : Word) : (s.setPair p v).main.f = s.main.f := by
  cases p <;> rfl

theorem State.setStackPair_f (s : State) {q : StackPair} (v : Word) (h : q ≠ .af) :
    (s.setStackPair q v).main.f = s.main.f := by
  cases q
  case af => exact absurd rfl h
  all_goals rfl

@[simp] theorem State.setIdxReg_f (s : State) (ii : Idx) (r : Reg8) (v : Byte) :
    (s.setIdxReg ii r v).main.f = s.main.f := by
  cases r <;> simp [State.setIdxReg]

@[simp] theorem State.copyTo_f (s : State) (copy : Option Reg8) (v : Byte) : (s.copyTo copy v).main.f = s.main.f := by
  cases copy <;> simp [State.copyTo]

@[simp] theorem State.modify_main (s : State) (a : Word) (f : Byte → Byte) : (s.modify a f).main = s.main := rfl

@[simp] theorem State.writeIo_main (s : State) (p : Word) (v : Byte) : (s.writeIo p v).main = s.main := rfl

theorem runBase_f (o : BaseOp) (s : State) (h : o.writesF = false) : (runBase o s).main.f = s.main.f := by
  cases o
  case exAfAf | addHl | incReg | incMem | decReg | decMem | rlca | rrca | rla | rra | daa | cpl | scf | ccf | aluReg |
      aluMem | aluN => cases h
  case djnz | jrCc | jpCc | callCc | retCc =>
    simp only [runBase, doDjnz, doJrCc, doJpCc, doCallCc, doRetCc, State.pop16, State.readMem_eq]
    split <;> simp
  case pop q => exact State.setStackPair_f _ _ (of_decide_eq_false h)
  all_goals
    simp [runBase, doNop, doJr, doLdPairN, doStA, doLdA, doStHl, doLdHl, doStAAbs, doLdAAbs, doIncPair, doDecPair,
      doLdRegN, doLdMemN, doLdRegReg, doLdRegMem, doLdMemReg, doPush, doRet, doJpHl, doLdSpHl, doJp, doOutNA, doInAN,
      doExSpHl, doCall, doRst, doExDeHl, doExx, doDi, doEi, doHalt, State.pop16, State.exchangeTop, State.readMem_eq,
      State.readMem16_eq, State.readIo_eq]

theorem runCb_f (o : CbOp) (s : State) (h : o.writesF = false) : (runCb o s).main.f = s.main.f := by
  cases o
  case rotReg | rotMem | bitReg | bitMem => cases h
  all_goals simp [runCb, doResReg, doResMem, doSetReg, doSetMem]

theorem runEd_f (o : EdOp) (s : State) (h : o.writesF = false) : (runEd o s).main.f = s.main.f := by
  cases o
  case inReg | inF | sbcHl | adcHl | neg | ldAI | ldAR | rrd | rld | blockLd | blockCp | blockIn | blockOut => cases h
  case retn | reti => simp [runEd, doRetn, doReti, returnFromInterrupt_eq]
  all_goals
    simp [runEd, doOutReg, doOutZero, doStPair, doLdPair, doIm, doLdIA, doLdRA, doNopStar, State.readMem16_eq]

theorem runIdx_f (ii : Idx) (o : IdxOp) (s : State) (h : o.writesF = false) : (runIdx ii o s).main.f = s.main.f := by
  cases o
  case add | incHalf | decHalf | incMem | decMem | aluHalf | aluMem => cases h
  all_goals
    simp [runIdx, doIdxLdN, doIdxSt, doIdxLd, doIdxInc, doIdxDec, doIdxLdHalfN, doIdxLdMemN, doIdxLdRegReg,
      doIdxLdRegMem, doIdxLdMemReg, doIdxPop, doIdxPush, doIdxExSp, doIdxJp, doIdxLdSp, State.indexed, State.pop16,
      State.exchangeTop, State.readMem_eq, State.readMem16_eq]

theorem runIdxCb_f (ii : Idx) (d : Byte) (o : IdxCbOp) (s : State) (h : o.writesF = false) :
    (runIdxCb ii d o s).main.f = s.main.f := by
  cases o
  case rot | bit => cases h
  all_goals simp [runIdxCb, doIdxRes, doIdxSet, State.indexed]

/-- An operation whose rule writes no flag leaves F alone (R25). -/
theorem runOp_f (o : Op) (s : State) (h : o.writesF = false) : (runOp o s).main.f = s.main.f := by
  cases o
  case base o => exact runBase_f o s h
  case cb o => exact runCb_f o s h
  case ed o => exact runEd_f o s h
  case idx ii o => exact runIdx_f ii o s h
  case idxCb ii d o => exact runIdxCb_f ii d o s h
  case ignored o => exact runBase_f o s h
  case ignoredEd o => exact runEd_f o s h
  case redundant => rfl

/-- Parity is 1 for an even number of 1 bits (R12). -/
theorem parity_eq_even_count (f : Byte) :
    parity f = decide (((List.range 8).filter fun k => f.getLsbD k).length % 2 = 0) := by
  revert f
  decide

/-- Settles O23: the frame of F by operation, then one case per operation for which ones write it. -/
theorem flagsOnlyWhereTheRuleWrites : Obligations.FlagsOnlyWhereTheRuleWrites := by
  refine ⟨fun i s t e h => ?_, fun o => ?_, fun o => ?_, fun o => ?_, fun _ o => ?_, fun _ _ o => ?_,
    fun _ _ _ _ => ⟨rfl, rfl, rfl⟩, fun f => ⟨⟨rfl, rfl, rfl, rfl, rfl, rfl, rfl, rfl⟩, parity_eq_even_count f⟩⟩
  · rw [exec_eq] at e
    cases e
    exact runOp_f i.op s h
  all_goals simp only [Op.writesF]
  · cases o <;> simp [BaseOp.writesF]
  · cases o <;> simp [CbOp.writesF]
  · cases o <;> simp [EdOp.writesF]
  · cases o <;> simp [IdxOp.writesF]
  · cases o <;> simp [IdxCbOp.writesF]

end Sys2Proof.Machine
end

section
/-! Every five bytes decode (R90, R345): each grid is full, and a cell is read with the operand bytes after it. -/

namespace Sys2Proof

/-- A cell that Form.take reads: any but a prefix byte (R72). -/
def Form.readable : Form → Bool
  | .prefixByte => false
  | .plain _ | .byte _ | .word _ | .bytes _ | .unassigned => true

/-- The instruction a cell gives when x and y follow the opcode byte `op`. -/
noncomputable def Form.instrAt (f : Form) (op x y : Byte) : Instr :=
  match f with
  | .plain i => i
  | .byte g => g x
  | .word g => g (pack y x)
  | .bytes g => g x y
  | .prefixByte | .unassigned => .nopStar op

theorem Form.take_readable {f : Form} (h : f.readable = true) (op : Byte) (size : Nat) (x y : Byte)
    (rest : List Byte) : ∃ n, f.take op size (x :: y :: rest) = .ok ⟨f.instrAt op x y, n⟩ := by
  cases f
  case prefixByte => cases h
  all_goals exact ⟨_, rfl⟩

/-- An ED instruction. -/
def Op.isEd : Op → Bool
  | .ed _ => true
  | .base _ | .cb _ | .idx _ _ | .idxCb _ _ _ | .ignored _ _ | .ignoredEd _ _ | .redundant _ _ => false

theorem Op.isEd_iff {o : Op} : o.isEd = true ↔ ∃ e, o = .ed e := by
  cases o <;> simp [Op.isEd]

/-- Sixteen rows of sixteen cells, each of which passes the test p. -/
def fullGrid {α : Type} (p : α → Bool) (g : List (List α)) : Bool :=
  g.length == 16 && g.all fun row => row.length == 16 && row.all p

/-- Every opcode byte has a cell in a full grid (R90). -/
theorem gridAt_of_fullGrid {α : Type} {p : α → Bool} {g : List (List α)} (h : fullGrid p g = true) (op : Byte) :
    ∃ c, gridAt g op = some c ∧ p c = true := by
  simp only [fullGrid, Bool.and_eq_true, beq_iff_eq, List.all_eq_true] at h
  obtain ⟨hrows, hrow⟩ := h
  have hi : op.toNat / 16 < g.length := by omega
  obtain ⟨hcols, hcell⟩ := hrow g[op.toNat / 16] (List.getElem_mem hi)
  have hj : op.toNat % 16 < g[op.toNat / 16].length := by omega
  refine ⟨g[op.toNat / 16][op.toNat % 16], ?_, hcell _ (List.getElem_mem hj)⟩
  simp only [gridAt, List.getElem?_eq_getElem hi, List.getElem?_eq_getElem hj]

theorem cbGrid_full : fullGrid (fun _ => true) cbGrid = true := rfl

theorem idxCbGrid_full (ii : Idx) (d : Byte) : fullGrid (fun _ => true) (idxCbGrid ii d) = true := rfl

theorem edGrid_full (op x y : Byte) :
    fullGrid (fun f => f.readable && (f.instrAt op x y).op.isEd) edGrid = true := rfl

theorem baseGrid_readable : ∀ op : Byte, op ≠ 0xCB#8 → op ≠ 0xED#8 → op ≠ 0xDD#8 → op ≠ 0xFD#8 →
    (gridAt baseGrid op).any Form.readable = true := by
  decide

theorem idxGrid_readable (ii : Idx) : ∀ op : Byte, op ≠ 0xCB#8 → op ≠ 0xED#8 → op ≠ 0xDD#8 → op ≠ 0xFD#8 →
    (gridAt (idxGrid ii) op).any Form.readable = true := by
  cases ii <;> decide

/-- A readable cell is read when two bytes follow the opcode byte. -/
theorem takeAt_readable {f : Option Form} (h : f.any Form.readable = true) (op : Byte) (size : Nat) (x y : Byte)
    (rest : List Byte) : ∃ d, takeAt f op size (x :: y :: rest) = .ok d := by
  obtain ⟨f, rfl, hf⟩ := (Option.any_eq_true _ _).1 h
  obtain ⟨n, hn⟩ := Form.take_readable hf op size x y rest
  exact ⟨_, hn⟩

/-- After ED any three bytes decode, to an ED instruction (R87). -/
theorem decodeEd_ok (size : Nat) (op x y : Byte) (rest : List Byte) :
    ∃ d o, decodeEd size (op :: x :: y :: rest) = .ok d ∧ d.instr.op = .ed o := by
  obtain ⟨f, hf, hp⟩ := gridAt_of_fullGrid (edGrid_full op x y) op
  obtain ⟨hr, hi⟩ := (Bool.and_eq_true _ _).mp hp
  obtain ⟨n, hn⟩ := Form.take_readable hr op size x y rest
  obtain ⟨o, ho⟩ := Op.isEd_iff.1 hi
  exact ⟨_, o, by rw [decodeEd, hf, takeAt, hn], ho⟩

/-- After CB any byte decodes (R85). -/
theorem decodeCb_ok (op : Byte) (rest : List Byte) : ∃ d, decodeCb (op :: rest) = .ok d := by
  obtain ⟨i, hi, -⟩ := gridAt_of_fullGrid cbGrid_full op
  exact ⟨_, by rw [decodeCb, hi]⟩

/-- After an index prefix and CB any two bytes decode (R86). -/
theorem decodeIdxCb_ok (ii : Idx) (k : Nat) (d op : Byte) (rest : List Byte) :
    ∃ x, decodeIdxCb ii k (d :: op :: rest) = .ok x := by
  obtain ⟨i, hi, -⟩ := gridAt_of_fullGrid (idxCbGrid_full ii d) op
  exact ⟨_, by rw [decodeIdxCb, hi]⟩

/-- After an index prefix any four bytes decode (R83, R86, R88, R89). -/
theorem decodeIndexed_ok (ii : Idx) (k : Nat) (op x y z : Byte) (rest : List Byte) :
    ∃ d, decodeIndexed ii k (op :: x :: y :: z :: rest) = .ok d := by
  rw [decodeIndexed]
  split_ifs with hcb hed hdd hfd
  · exact decodeIdxCb_ok ii k x y (z :: rest)
  · obtain ⟨d, o, hd, ho⟩ := decodeEd_ok (k + 2) x y z rest
    exact ⟨⟨.ignoredEd ii o, d.size⟩, by rw [hd, withIgnoredPrefix]; simp only [ho]⟩
  · exact ⟨_, rfl⟩
  · exact ⟨_, rfl⟩
  · exact takeAt_readable (idxGrid_readable ii op hcb hed hdd hfd) op (k + 1) x y (z :: rest)

/-- Any five bytes decode, in every prefix state (R90, R345). -/
theorem decode_five_ok (pending : Option Idx) (a b c d e : Byte) : ∃ x, decode pending [a, b, c, d, e] = .ok x := by
  cases pending
  case some ii => exact decodeIndexed_ok ii 0 a b c d [e]
  case none =>
    rw [decode, decodeBase]
    split_ifs with hcb hed hdd hfd
    · exact decodeCb_ok b [c, d, e]
    · obtain ⟨x, -, hx, -⟩ := decodeEd_ok 2 b c d [e]
      exact ⟨x, hx⟩
    · exact decodeIndexed_ok .ix 1 b c d e []
    · exact decodeIndexed_ok .iy 1 b c d e []
    · exact takeAt_readable (baseGrid_readable a hcb hed hdd hfd) a 1 b c [d, e]

end Sys2Proof
end

section
/-! The step: it always answers, what an executing one does, and how R counts in it. -/

namespace Sys2Proof.Machine

/-- The five bytes a step offers the decoder always decode (R90). -/
theorem State.decode_bytesAt (s : State) (pending : Option Idx) (a : Word) :
    ∃ d, decode pending (s.bytesAt a 5) = .ok d :=
  decode_five_ok pending _ _ _ _ _

/-- A step that accepts nothing and is not halted runs the operation its bytes decode to (R301). -/
theorem step_of_executes {s : State} {d : Decoded} (h : s.Executes)
    (hd : decode s.pendingPrefix (s.bytesAt s.pc 5) = .ok d) :
    step s = .next ((runOp d.instr.op (s.beginStep.fetched d)).finished s.pendingPrefix d.instr) := by
  obtain ⟨hn, hm, hh⟩ := h
  simp [step, runStep, hn, hm, hh, executeNext_beginStep, hd]

/-- Settles O9: an interrupt response and a halted idle answer at once, and in every other step the five bytes at PC decode
and every instruction answers. -/
theorem stepAlwaysAnswers : Obligations.StepAlwaysAnswers := by
  intro s
  by_cases h : s.Executes
  · obtain ⟨d, hd⟩ := s.decode_bytesAt s.pendingPrefix s.pc
    exact ⟨_, step_of_executes h hd⟩
  · rw [step, runStep]
    split_ifs with hn hm hh
    · exact ⟨_, rfl⟩
    · exact ⟨_, rfl⟩
    · exact ⟨_, rfl⟩
    · exact absurd ⟨by simpa using hn, by simpa using hm, by simpa using hh⟩ h

theorem word_succ_add (a : Word) (k : Nat) : a + 1#16 + BitVec.ofNat 16 k = a + BitVec.ofNat 16 (k + 1) := by
  rw [BitVec.add_assoc, ← BitVec.ofNat_add, Nat.add_comm]

/-- The k-th of the fetched bytes is the one k addresses on (R28). -/
theorem State.bytesAt_getElem? (s : State) (a : Word) {n k : Nat} (h : k < n) :
    (s.bytesAt a n)[k]? = some (s.peek (a + BitVec.ofNat 16 k)) := by
  induction n generalizing a k with
  | zero => omega
  | succ n ih =>
    cases k with
    | zero => simp [State.bytesAt]
    | succ k =>
      rw [State.bytesAt, List.getElem?_cons_succ, ih _ (by omega), word_succ_add]

/-- The k-th fetch call reads the byte k addresses on (R58). -/
theorem State.fetchCalls_getElem? (s : State) (a : Word) {n k : Nat} (h : k < n) :
    (s.fetchCalls a n)[k]? =
      some (.readMem (a + BitVec.ofNat 16 k) (s.peek (a + BitVec.ofNat 16 k))) := by
  induction n generalizing a k with
  | zero => omega
  | succ n ih =>
    cases k with
    | zero => simp [State.fetchCalls]
    | succ k =>
      rw [State.fetchCalls, List.getElem?_cons_succ, ih _ (by omega), word_succ_add]

/-- The state an instruction starts in, from the state its step starts in (R72, R301). -/
theorem State.beginStep_fetched (s : State) (d : Decoded) :
    s.beginStep.fetched d =
      { s with
        eiDelay := false, pollAnswers := s.pollAnswers.tail,
        draws := if s.pollAnswers.isEmpty then s.draws + 1 else s.draws, pendingPrefix := none,
        pc := s.pc + BitVec.ofNat 16 d.size, r := bumpRefresh (stepM1 s.pendingPrefix d.instr) s.r,
        calls := .pollPending s.pollAnswer :: s.fetchCalls s.pc d.size } := by
  rw [State.fetched, State.fetchCalls_congr (s := s.beginStep) (t := s) rfl]
  rfl

/-- What a step adds after its instruction: only the cycle count and q (R72, R182, R300). -/
theorem State.finished_eq (t : State) (pending : Option Idx) (i : Instr) :
    t.finished pending i =
      { t with
        cycles := t.cycles - (if pending = none then 0 else 4) + t.params.m1Wait * stepM1 pending i,
        q := decide (t.params.scfCcfYx = .qModel) && i.op.writesF } := by
  cases pending <;> rfl

/-- Settles O8: the step of an executing state, with its first and its last part written out. -/
theorem stepRunsDecodedInstruction : Obligations.StepRunsDecodedInstruction := by
  refine ⟨fun s d h hd => ⟨_, exec_eq _ _, ?_⟩, fun s a n =>
    ⟨s.length_bytesAt a n, s.length_fetchCalls a n, fun k hk =>
      ⟨_, rfl, s.bytesAt_getElem? a hk, s.fetchCalls_getElem? a hk⟩⟩⟩
  rw [step_of_executes h hd, State.beginStep_fetched, State.finished_eq]

/-! R. -/

/-- Every response counts its acknowledge cycle in R (R310, R316). -/
theorem takeInterrupt_r (c : Cause) (s : State) : (takeInterrupt c s).r = bumpRefresh 1 s.r := by
  rw [takeInterrupt_eq]
  cases c <;> simp [State.handler, State.vectorLowByte, State.readMem16_eq]

theorem State.finished_r (t : State) (pending : Option Idx) (i : Instr) : (t.finished pending i).r = t.r := by
  rw [State.finished_eq]

theorem bumpRefresh_bit7 (k : Nat) (r : Byte) : (bumpRefresh k r).getLsbD 7 = r.getLsbD 7 := by
  simp [bumpRefresh]

/-- The low seven bits of R count modulo 128 (R30). -/
theorem bumpRefresh_mod (k : Nat) (r : Byte) : (bumpRefresh k r).toNat % 128 = (r.toNat + k) % 128 := by
  have low : (bumpRefresh k r).setWidth 7 = (r + BitVec.ofNat 8 k).setWidth 7 := by
    ext i hi
    have mask : (BitVec.allOnes 7)[i] = true := BitVec.getElem_allOnes i hi
    simpa [bumpRefresh] using fun _ => mask
  simpa using congrArg BitVec.toNat low

/-- Settles O25, by what a step can be. In a step that executes, R counts at the fetch and no instruction but LD R,A writes
it. -/
theorem refreshCountsFetches : Obligations.RefreshCountsFetches := by
  refine ⟨fun s t d he hd hs h h' => ?_, fun s t he hs => ?_, fun _ _ => ⟨rfl, rfl⟩,
    fun _ _ _ _ _ _ _ _ => ⟨rfl, rfl, rfl, rfl, rfl, rfl, rfl, rfl⟩,
    fun k r => ⟨bumpRefresh_bit7 k r, bumpRefresh_mod k r⟩⟩
  · rw [step_of_executes he hd] at hs
    cases hs
    rw [State.finished_r, runOp_r _ _ h h', State.beginStep_fetched]
  · obtain ⟨-, rfl⟩ | ⟨-, -, rfl⟩ | ⟨-, -, -, rfl⟩ | ⟨hx, -⟩ := step_cases hs
    · simp [respond, takeInterrupt_r]
    · simp [respond, takeInterrupt_r]
    · simp [haltedIdle]
    · exact absurd hx he

end Sys2Proof.Machine
end

section
/-! The stack: PUSH and POP, calls and returns, and an NMI undone by RETN. -/

namespace Sys2Proof.Machine

/-- What Push16 does: two bytes of memory, SP and the record of calls (R15). -/
theorem State.push16_eq (s : State) (w : Word) :
    s.push16 w = { s with
      mem := (s.push16 w).mem, sp := s.sp - 2#16,
      calls := s.calls ++ [.writeMem (s.sp - 1#16) (hiByte w), .writeMem (s.sp - 2#16) (loByte w)] } := by
  simp [State.push16, State.writeMem, State.log, State.poke, State.setSp]

theorem State.push16_stored2 (s : State) (w : Word) :
    Stored2 s (s.push16 w) (s.sp - 1#16) (hiByte w) (s.sp - 2#16) (loByte w) :=
  ⟨s.push16_peek_hi w, s.push16_peek_lo w, fun _ h h' => s.push16_peek_other w h h'⟩

/-- A push and its cycle count: what PUSH does (R129). -/
theorem State.push16_took (s : State) (w : Word) (n : Nat) :
    ∃ t, (s.push16 w).took n = t ∧ Stored2 s t (s.sp - 1#16) (hiByte w) (s.sp - 2#16) (loByte w) ∧
      t = { s with
            mem := t.mem, sp := s.sp - 2#16,
            calls := s.calls ++ [.writeMem (s.sp - 1#16) (hiByte w), .writeMem (s.sp - 2#16) (loByte w)],
            cycles := n } :=
  ⟨_, rfl, s.push16_stored2 w, congrArg (State.took · n) (s.push16_eq w)⟩

/-- A push of PC, a jump and the cycle count: what a call does (R237). -/
theorem State.push16_jump_took (s : State) (a : Word) (n : Nat) :
    ∃ t, ((s.push16 s.pc).jump a).took n = t ∧
      Stored2 s t (s.sp - 1#16) (hiByte s.pc) (s.sp - 2#16) (loByte s.pc) ∧
      t = { s with
            mem := t.mem, sp := s.sp - 2#16, pc := a, memptr := a,
            calls := s.calls ++ [.writeMem (s.sp - 1#16) (hiByte s.pc), .writeMem (s.sp - 2#16) (loByte s.pc)],
            cycles := n } :=
  ⟨_, rfl, s.push16_stored2 s.pc, congrArg (fun t => (t.jump a).took n) (s.push16_eq s.pc)⟩

/-- SP is past both bytes after Pop16. -/
theorem word_succ_succ (a : Word) : a + 1#16 + 1#16 = a + 2#16 := by bv_omega

/-- Settles O33, by what Push16 and Pop16 do. -/
theorem pushAndPop : Obligations.PushAndPop := by
  refine ⟨fun i q s h => ?_, fun i ii s h => ?_, fun i q s h => ?_, fun i ii s h => ?_⟩
  · obtain ⟨t, rfl, ht⟩ := s.push16_took (s.stackPair q) 11
    exact ⟨_, exec_of_op h s, ht⟩
  · obtain ⟨t, rfl, ht⟩ := s.push16_took (s.idx ii) 15
    exact ⟨_, exec_of_op h s, ht⟩
  · rw [exec_of_op h, ← word_succ_succ, runOp, runBase, doPop, State.pop16_eq]
    cases q <;> simp [State.setStackPair, State.setBc, State.setDe, State.setHl, State.setAf, State.took]
  · rw [exec_of_op h, ← word_succ_succ, runOp, runIdx, doIdxPop, State.pop16_eq]
    cases ii <;> simp [State.setIdx, State.took]

/-- A pop into PC and MEMPTR with its cycle count: what a return does (R239). -/
theorem State.pop16_jump_took (s : State) (n : Nat) :
    (s.pop16 fun w t => (t.jump w).took n) =
      { s with
        pc := pack (s.peek (s.sp + 1#16)) (s.peek s.sp), memptr := pack (s.peek (s.sp + 1#16)) (s.peek s.sp),
        sp := s.sp + 2#16,
        calls := s.calls ++ [.readMem s.sp (s.peek s.sp), .readMem (s.sp + 1#16) (s.peek (s.sp + 1#16))],
        cycles := n } := by
  rw [State.pop16_eq, word_succ_succ, List.append_assoc]
  rfl

/-- R243's target is eight times y. -/
theorem rstTarget_eq (y : BitVec 3) : rstTarget y = BitVec.ofNat 16 (8 * y.toNat) := by
  revert y
  decide

/-- Settles O55: every taken call is a push of PC and a jump. -/
theorem calls : Obligations.Calls := by
  refine ⟨fun i s w n h => ?_, fun i cc nn s h hc => ?_⟩
  · obtain ⟨t, rfl, ht⟩ := s.push16_jump_took w n
    refine ⟨_, ?_, ht⟩
    obtain ⟨h, rfl⟩ | ⟨cc, h, hc, rfl⟩ | ⟨y, h, rfl, rfl⟩ := h
    · rw [exec_of_op h, runOp, runBase, doCall]
    · rw [exec_of_op h, runOp, runBase, doCallCc, if_pos hc]
    · rw [exec_of_op h, runOp, runBase, doRst, rstTarget_eq]
  · rw [exec_of_op h, runOp, runBase, doCallCc, hc]
    rfl

/-- Settles O56: every taken return is a pop into PC. -/
theorem returns : Obligations.Returns := by
  refine ⟨fun i s n h => ⟨_, rfl, ?_⟩, fun i cc s h hc => ?_⟩
  · rw [← State.pop16_jump_took]
    obtain ⟨h, rfl⟩ | ⟨cc, h, hc, rfl⟩ := h
    · rw [exec_of_op h, runOp, runBase, doRet]
    · rw [exec_of_op h, runOp, runBase, doRetCc, if_pos hc]
  · rw [exec_of_op h, runOp, runBase, doRetCc, hc]
    rfl

/-- An NMI saves IFF1 in IFF2 (R316). -/
theorem State.acknowledged_nmi_iff2 (s : State) : (s.acknowledged .nmi).iff2 = s.iff1 := by
  simp [State.acknowledged, State.maskInterrupts]

/-- Settles O19: RETN pops the PC that the NMI pushed, and takes IFF1 back from IFF2. -/
theorem nmiThenReturn : Obligations.NmiThenReturn := by
  intro i y s h
  have top : pack ((s.acknowledged .nmi).peek ((s.acknowledged .nmi).sp + 1#16))
      ((s.acknowledged .nmi).peek (s.acknowledged .nmi).sp) = s.pc := State.pop16_push16 _ s.pc
  have back : s.sp - 2#16 + 1#16 + 1#16 = s.sp := by bv_omega
  refine ⟨returnFromInterrupt (takeInterrupt .nmi s), by rw [exec_of_op h]; rfl, ?_⟩
  rw [returnFromInterrupt_eq, takeInterrupt_nmi]
  refine ⟨by simpa using top, by simpa using back, s.acknowledged_nmi_iff2, by simp,
    fun x hx hx' => ?_⟩
  exact s.acknowledged_peek_other .nmi hx hx'

end Sys2Proof.Machine
end

section
/-! The register file: a name that is written reads as the value, and every other name of its width as before; and what
reset() leaves in it. -/

namespace Sys2Proof.Machine

theorem pack_toNat (h l : Byte) : (pack h l).toNat = 256 * h.toNat + l.toNat := by
  have hl := l.isLt
  rw [pack, BitVec.toNat_append, ← Nat.shiftLeft_add_eq_or_of_lt hl, Nat.shiftLeft_eq]
  omega

theorem State.pair_setPair (s : State) (p x : Pair) (v : Word) :
    (s.setPair p v).pair x = if x = p then v else s.pair x := by
  cases p <;> cases x <;> simp [State.setPair, State.pair, State.bc, State.de, State.hl]

theorem State.stackPair_setStackPair (s : State) (q x : StackPair) (v : Word) :
    (s.setStackPair q v).stackPair x = if x = q then v else s.stackPair x := by
  cases q <;> cases x <;> simp [State.setStackPair, State.stackPair, State.bc, State.de, State.hl, State.af]

theorem State.idx_setIdx (s : State) (ii jj : Idx) (v : Word) :
    (s.setIdx ii v).idx jj = if jj = ii then v else s.idx jj := by
  split_ifs with h
  · rw [h, State.setIdx_idx]
  · rw [State.setIdx_idx_other s v h]

theorem State.half_setHalf (s : State) (ii jj : Idx) (x y : Half) (v : Byte) :
    (s.setHalf ii x v).half jj y = if jj = ii ∧ y = x then v else s.half jj y := by
  cases x <;> cases y <;> by_cases h : jj = ii <;> simp [State.setHalf, State.half, State.idx_setIdx, h]

theorem State.idx_eq_pack_half (s : State) (ii : Idx) : s.idx ii = pack (s.half ii .high) (s.half ii .low) :=
  (pack_hiByte_loByte _).symm

/-- One case for each pair of names: different names are different fields, or different halves of IX or IY (R23). -/
theorem State.get8_set8 (s : State) (n m : Name8) (v : Byte) :
    (s.set8 n v).get8 m = if m = n then v else s.get8 m := by
  cases n <;> cases m <;> simp [State.set8, State.get8]

/-- One case for each pair of names: no field belongs to two of them. -/
theorem State.get16_set16 (s : State) (n m : Name16) (v : Word) :
    (s.set16 n v).get16 m = if m = n then v else s.get16 m := by
  cases n <;> cases m <;> simp [State.set16, State.get16]

theorem State.getBit_setFlag (s : State) (n m : NameBit) (v : Bool) :
    (s.setFlag n v).getBit m = if m = n then v else s.getBit m := by
  cases n <;> cases m <;> rfl

/-- Settles O26, accessor by accessor. -/
theorem registerFile : Obligations.RegisterFile := by
  refine ⟨?_, ?_, ?_, ?_, ?_, ?_, ?_, ?_, ?_, ?_, ?_, ?_, ?_, ?_, ?_⟩
  · exact fun k => ⟨rfl, rfl, rfl, rfl, rfl, rfl, rfl⟩
  · exact fun k r x v => ⟨Bank.set_f k r v, Bank.get_set k r x v⟩
  · exact fun s => ⟨rfl, rfl, rfl, rfl, rfl, rfl, rfl, rfl, rfl, rfl⟩
  · exact fun s p x v => ⟨s.pair_setPair p x v, by cases p <;> rfl, s.setPair_f p v, by cases p <;> rfl⟩
  · exact fun s q x v => ⟨s.stackPair_setStackPair q x v, by cases q <;> rfl⟩
  · exact fun s ii jj v => ⟨s.idx_setIdx ii jj v, by cases ii <;> rfl⟩
  · exact fun s ii jj x y v => ⟨s.half_setHalf ii jj x y v, s.idx_eq_pack_half jj, by cases x <;> cases ii <;> rfl⟩
  · exact fun h l => ⟨pack_toNat h l, hiByte_pack h l, loByte_pack h l⟩
  · exact fun s => ⟨rfl, rfl⟩
  · exact fun s ii r v => ⟨by cases r <;> rfl, by cases r <;> rfl, rfl, rfl⟩
  · exact fun s => by simp [State.get8, State.get16, State.getBit]
  · exact fun s n m v => ⟨s.get8_set8 n m v, by cases n <;> rfl⟩
  · exact fun s n m v => ⟨s.get16_set16 n m v, by cases n <;> rfl⟩
  · exact fun s n m v => ⟨s.getBit_setFlag n m v, by cases n <;> rfl⟩
  · exact fun s m p => ⟨rfl, rfl⟩

/-- Settles O1, pair by pair. -/
theorem resetLeaves : Obligations.ResetLeaves := by
  refine ⟨fun s => ⟨_, rfl, ?_⟩, by decide, rfl, rfl, fun p mem => ⟨_, rfl, rfl, rfl, rfl⟩⟩
  simp [hostReset, Bank.filled, State.af, State.bc, State.de, State.hl]

end Sys2Proof.Machine
end

section
/-! Memory changes only by the write_mem calls an instruction makes, said once over all operations. -/

namespace Sys2Proof.Machine

/-- Memory after one call: write_mem stores its byte, no other call reaches memory (R52, R53). -/
@[simp] def BusCall.applyTo (c : BusCall) (m : List Host.Cell) : List Host.Cell :=
  match c with
  | .writeMem a v => Memory.write m a.toNat v
  | .readMem _ _ | .readIo _ _ | .writeIo _ _ | .pollPending _ | .vectorLowByte _ => m

/-- Memory after a record of calls. -/
def Memory.replay (m : List Host.Cell) (calls : List BusCall) : List Host.Cell :=
  calls.foldl (fun m c => c.applyTo m) m

@[simp] theorem Memory.replay_nil (m : List Host.Cell) : Memory.replay m [] = m := rfl

@[simp] theorem Memory.replay_cons (m : List Host.Cell) (c : BusCall) (calls : List BusCall) :
    Memory.replay m (c :: calls) = Memory.replay (c.applyTo m) calls := rfl

/-- Replaying calls keeps the canonical form. -/
theorem Memory.wf_replay {m : List Host.Cell} (calls : List BusCall) (h : Memory.wf m = true) :
    Memory.wf (Memory.replay m calls) = true := by
  induction calls generalizing m with
  | nil => exact h
  | cons c calls ih =>
    refine ih ?_
    cases c
    case writeMem a v => exact Memory.wf_write v a.isLt h
    all_goals exact h

/-- From s to t the record of calls grows, and memory is what the new calls made of it. -/
def State.WritesLogged (s t : State) : Prop :=
  ∃ more, t.calls = s.calls ++ more ∧ t.mem = Memory.replay s.mem more

theorem State.WritesLogged.memWf {s t : State} (h : s.WritesLogged t) (w : s.MemWf) : t.MemWf := by
  obtain ⟨more, -, hm⟩ := h
  rw [State.MemWf, hm]
  exact Memory.wf_replay more w

@[simp] theorem State.repeatBlock_mem (s : State) (g : Byte → Byte) : (s.repeatBlock g).mem = s.mem := rfl

@[simp] theorem State.repeatBlock_calls (s : State) (g : Byte → Byte) : (s.repeatBlock g).calls = s.calls := rfl

@[simp] theorem State.repeatIo_mem (s : State) (rep : Bool) (t : Byte) : (s.repeatIo rep t).mem = s.mem := by
  unfold State.repeatIo
  split <;> rfl

@[simp] theorem State.repeatIo_calls (s : State) (rep : Bool) (t : Byte) : (s.repeatIo rep t).calls = s.calls := by
  unfold State.repeatIo
  split <;> rfl

theorem runBase_writesLogged (o : BaseOp) (s : State) : s.WritesLogged (runBase o s) := by
  unfold State.WritesLogged
  cases o
  case djnz | jrCc | jpCc | callCc | retCc =>
    simp only [runBase, doDjnz, doJrCc, doJpCc, doCallCc, doRetCc, State.pop16, State.readMem_eq]
    split <;> simp
  all_goals
    simp [runBase, doNop, doExAfAf, doJr, doLdPairN, doAddHl, doStA, doLdA, doStHl, doLdHl, doStAAbs, doLdAAbs,
      doIncPair, doDecPair, doIncReg, doIncMem, doDecReg, doDecMem, doLdRegN, doLdMemN, doRlca, doRrca, doRla, doRra,
      doDaa, doCpl, doScf, doCcf, doHalt, doLdRegReg, doLdRegMem, doLdMemReg, doAluReg, doAluMem, doAluN, doPop, doPush,
      doRet, doExx, doJpHl, doLdSpHl, doJp, doOutNA, doInAN, doExSpHl, doExDeHl, doDi, doEi, doCall, doRst, State.alu,
      State.rotateA, State.modifyF, State.pop16, State.exchangeTop, State.readMem_eq, State.readMem16_eq,
      State.readIo_eq, State.writeIo]

theorem runCb_writesLogged (o : CbOp) (s : State) : s.WritesLogged (runCb o s) := by
  unfold State.WritesLogged
  cases o <;>
    simp [runCb, doRotReg, doRotMem, doBitReg, doBitMem, doResReg, doResMem, doSetReg, doSetMem, State.modify,
      State.modifyF, State.readMem_eq]

theorem runEd_writesLogged (o : EdOp) (s : State) : s.WritesLogged (runEd o s) := by
  unfold State.WritesLogged
  cases o
  case blockLd | blockCp =>
    simp only [runEd, doBlockLd, doBlockCp, State.readMem_eq]
    split <;> simp
  all_goals
    simp [runEd, doInReg, doInF, doOutReg, doOutZero, doSbcHl, doAdcHl, doStPair, doLdPair, doNeg, doRetn, doReti, doIm,
      doLdIA, doLdRA, doLdAI, doLdAR, doRrd, doRld, doBlockIn, doBlockOut, doNopStar, returnFromInterrupt_eq,
      State.readMem_eq, State.readMem16_eq, State.readIo_eq, State.writeIo]

theorem runIdx_writesLogged (ii : Idx) (o : IdxOp) (s : State) : s.WritesLogged (runIdx ii o s) := by
  unfold State.WritesLogged
  cases o <;>
    simp [runIdx, doIdxAdd, doIdxLdN, doIdxSt, doIdxLd, doIdxInc, doIdxDec, doIdxIncHalf, doIdxDecHalf, doIdxLdHalfN,
      doIdxIncMem, doIdxDecMem, doIdxLdMemN, doIdxLdRegReg, doIdxLdRegMem, doIdxLdMemReg, doIdxAluHalf, doIdxAluMem,
      doIdxPop, doIdxPush, doIdxExSp, doIdxJp, doIdxLdSp, State.indexed, State.alu, State.modifyF, State.pop16,
      State.exchangeTop, State.readMem_eq, State.readMem16_eq]

theorem runIdxCb_writesLogged (ii : Idx) (d : Byte) (o : IdxCbOp) (s : State) :
    s.WritesLogged (runIdxCb ii d o s) := by
  unfold State.WritesLogged
  cases o <;> simp [runIdxCb, doIdxRot, doIdxBit, doIdxRes, doIdxSet, State.indexed, State.modify, State.modifyF,
    State.readMem_eq]

/-- No instruction changes memory but by its write_mem calls (R53, R58). -/
theorem runOp_writesLogged (o : Op) (s : State) : s.WritesLogged (runOp o s) := by
  cases o
  case base o | ignored o => exact runBase_writesLogged o s
  case cb o => exact runCb_writesLogged o s
  case ed o | ignoredEd o => exact runEd_writesLogged o s
  case idx ii o => exact runIdx_writesLogged ii o s
  case idxCb ii d o => exact runIdxCb_writesLogged ii d o s
  case redundant => exact ⟨[], by simp [runOp, doRedundant], rfl⟩

theorem exec_writesLogged {i : Instr} {s t : State} (e : exec i s = .next t) : s.WritesLogged t := by
  rw [exec_eq] at e
  cases e
  exact runOp_writesLogged i.op s

end Sys2Proof.Machine
end

section
/-! What an instruction makes of the second bank and the control state: the same frame as `runOp_control`, with the
control instructions' own effects beside it. -/

namespace Sys2Proof

open Machine

/-- The control state after a base instruction, from the main bank and the control state before it (R130, R131, R261 to
R263). -/
@[simp] def BaseOp.controlAfter (o : BaseOp) (main : Bank) (c : Control) : Control :=
  match o with
  | .exAfAf => { c with alt := { c.alt with a := main.a, f := main.f } }
  | .exx => { c with alt := { main with a := c.alt.a, f := c.alt.f } }
  | .halt => { c with halted := true }
  | .di => { c with iff1 := false, iff2 := false }
  | .ei => { c with iff1 := true, iff2 := true, eiDelay := true }
  | _ => c

/-- The control state after an ED instruction (R110, R111, R241, R242, R264). -/
@[simp] def EdOp.controlAfter (o : EdOp) (main : Bank) (c : Control) : Control :=
  match o with
  | .retn _ | .reti => { c with iff1 := c.iff2 }
  | .im m _ => { c with im := m }
  | .ldIA => { c with i := main.a }
  | .ldRA => { c with r := main.a }
  | _ => c

/-- The control state after an operation. -/
@[simp] def Op.controlAfter (o : Op) (main : Bank) (c : Control) : Control :=
  match o with
  | .base o | .ignored _ o => o.controlAfter main c
  | .ed o | .ignoredEd _ o => o.controlAfter main c
  | .redundant _ second => { c with pendingPrefix := some second }
  | .cb _ | .idx _ _ | .idxCb _ _ _ => c

end Sys2Proof

namespace Sys2Proof.Machine

@[simp] theorem State.control_alt (s : State) : s.control.alt = s.alt := rfl
@[simp] theorem State.control_i (s : State) : s.control.i = s.i := rfl
@[simp] theorem State.control_r (s : State) : s.control.r = s.r := rfl
@[simp] theorem State.control_iff1 (s : State) : s.control.iff1 = s.iff1 := rfl
@[simp] theorem State.control_iff2 (s : State) : s.control.iff2 = s.iff2 := rfl
@[simp] theorem State.control_im (s : State) : s.control.im = s.im := rfl
@[simp] theorem State.control_halted (s : State) : s.control.halted = s.halted := rfl
@[simp] theorem State.control_intLatch (s : State) : s.control.intLatch = s.intLatch := rfl
@[simp] theorem State.control_nmiLatch (s : State) : s.control.nmiLatch = s.nmiLatch := rfl
@[simp] theorem State.control_eiDelay (s : State) : s.control.eiDelay = s.eiDelay := rfl
@[simp] theorem State.control_pendingPrefix (s : State) : s.control.pendingPrefix = s.pendingPrefix := rfl
@[simp] theorem State.control_q (s : State) : s.control.q = s.q := rfl
@[simp] theorem State.control_params (s : State) : s.control.params = s.params := rfl
@[simp] theorem State.control_pollAnswers (s : State) : s.control.pollAnswers = s.pollAnswers := rfl
@[simp] theorem State.control_vectorAnswers (s : State) : s.control.vectorAnswers = s.vectorAnswers := rfl

theorem runBase_controlAfter (o : BaseOp) (s : State) :
    (runBase o s).control = o.controlAfter s.main s.control := by
  cases o
  case exAfAf | exx | halt | di | ei => rfl
  all_goals exact runBase_control _ s rfl

theorem runEd_controlAfter (o : EdOp) (s : State) :
    (runEd o s).control = o.controlAfter s.main s.control := by
  cases o
  case retn | reti =>
    simp only [runEd, doRetn, doReti, returnFromInterrupt_eq]
    rfl
  case im | ldIA | ldRA => rfl
  all_goals exact runEd_control _ s rfl

theorem runOp_controlAfter (o : Op) (s : State) :
    (runOp o s).control = o.controlAfter s.main s.control := by
  cases o
  case base o | ignored o => exact runBase_controlAfter o s
  case ed o | ignoredEd o => exact runEd_controlAfter o s
  case redundant => rfl
  all_goals exact runOp_control _ s rfl

theorem exec_controlAfter {i : Instr} {s t : State} (h : exec i s = .next t) :
    t.control = i.op.controlAfter s.main s.control := by
  rw [exec_eq] at h
  cases h
  exact runOp_controlAfter i.op s

/-- Settles O20: no operation but the exchanges changes the second bank of `controlAfter`. -/
theorem secondBankOnlyByExchanges : Obligations.SecondBankOnlyByExchanges := by
  intro i s t e
  simp only [← State.control_alt, exec_controlAfter e]
  cases i.op
  case' base o | ignored ii o | ed o | ignoredEd ii o => cases o
  all_goals simp

/-- Settles O21, read off `controlAfter` operation by operation. -/
theorem systemRegisterWriters : Obligations.SystemRegisterWriters := by
  intro i s t e
  simp only [← State.control_i, ← State.control_r, ← State.control_im, ← State.control_iff1, ← State.control_iff2,
    exec_controlAfter e]
  cases i.op
  case' base o | ignored ii o | ed o | ignoredEd ii o => cases o
  all_goals simp

/-- Settles O22, read off `controlAfter` operation by operation. -/
theorem hiddenStateWriters : Obligations.HiddenStateWriters := by
  intro i s t e
  simp only [← State.control_nmiLatch, ← State.control_intLatch, ← State.control_params, ← State.control_q,
    ← State.control_pollAnswers, ← State.control_vectorAnswers, ← State.control_halted, ← State.control_eiDelay,
    ← State.control_pendingPrefix, exec_controlAfter e]
  cases i.op
  case' base o | ignored ii o | ed o | ignoredEd ii o => cases o
  all_goals simp

end Sys2Proof.Machine
end

section
/-! What each kind of step does to requests, and the invariant every step keeps. -/

namespace Sys2Proof.Machine

/-! An interrupt response. -/

theorem takeInterrupt_memWf (c : Cause) {s : State} (h : s.MemWf) : (takeInterrupt c s).MemWf := by
  have w : Memory.wf (s.acknowledged c).mem = true := State.acknowledged_wf c h
  rw [State.MemWf, takeInterrupt_eq]
  cases c <;> simpa [State.handler, State.vectorLowByte, State.readMem16_eq] using w

@[simp] theorem takeInterrupt_halted (c : Cause) (s : State) : (takeInterrupt c s).halted = false := by
  rw [takeInterrupt_eq]
  cases c <;> simp [State.handler, State.vectorLowByte, State.readMem16_eq]

@[simp] theorem takeInterrupt_eiDelay (c : Cause) (s : State) : (takeInterrupt c s).eiDelay = s.eiDelay := by
  rw [takeInterrupt_eq]
  cases c <;> simp [State.handler, State.vectorLowByte, State.readMem16_eq]

theorem takeInterrupt_nmiLatch (c : Cause) (s : State) :
    (takeInterrupt c s).nmiLatch = (s.nmiLatch && decide (c ≠ .nmi)) := by
  cases c <;> simp [takeInterrupt, State.handler, State.vectorLowByte, State.readMem16_eq, State.clearLatch]

theorem takeInterrupt_intLatch (c : Cause) (s : State) :
    (takeInterrupt c s).intLatch = (s.intLatch && decide (c = .nmi)) := by
  cases c <;> simp [takeInterrupt, State.handler, State.vectorLowByte, State.readMem16_eq, State.clearLatch]

theorem maskableCause_ne_nmi (m : IntMode) : maskableCause m ≠ .nmi := by
  cases m <;> simp [maskableCause]

/-! The requests. -/

/-- Settles O17, by what a step can be: only a response clears a latch, and only its own. -/
theorem requestsPersist : Obligations.RequestsPersist := by
  refine ⟨fun s t hs => ?_, fun s => ⟨?_, ?_⟩, fun s => ⟨rfl, rfl, rfl, rfl⟩⟩
  · obtain ⟨hn, rfl⟩ | ⟨hn, hm, rfl⟩ | ⟨hn, hm, -, rfl⟩ | ⟨⟨hn, hm, -⟩, d, -, rfl⟩ := step_cases hs
    · simp [respond, takeInterrupt_nmiLatch, takeInterrupt_intLatch, hn]
    · simp [respond, takeInterrupt_nmiLatch, takeInterrupt_intLatch, maskableCause_ne_nmi, hn, hm]
    · simp [haltedIdle, hn, hm]
    · obtain ⟨hnmi, hint, -⟩ := hiddenStateWriters d.instr (s.beginStep.fetched d) _ (exec_eq _ _)
      simp only [hn, hm, Bool.not_false, Bool.or_true, Bool.and_true]
      exact ⟨hnmi, hint⟩
  · simp [State.acceptsNmi]
  · simp [State.acceptsMaskable, and_assoc]

/-- Settles O16: the halted idle's own updates, written out. -/
theorem haltedStepIdles : Obligations.HaltedStepIdles := by
  intro s hh hn hm
  have idle : step s = .next (haltedIdle s.beginStep) := by simp [step, runStep, hn, hm, hh]
  rw [idle]
  simp [haltedIdle, State.beginStep, State.bumpR, State.took, State.addWaits, State.addCycles, State.noteQ, hh]

/-- A pending prefix blocks both kinds of interrupt, and EI's delay the maskable one (R303, R305, R306). -/
theorem State.executes_of_blocked {s : State} (hh : s.halted = false)
    (h : s.pendingPrefix ≠ none ∨ (s.eiDelay = true ∧ s.nmiLatch = false)) : s.Executes := by
  obtain hp | ⟨hd, hn⟩ := h
  · rw [ne_eq, ← Option.isNone_iff_eq_none] at hp
    exact ⟨by simp [State.acceptsNmi, hp], by simp [State.acceptsMaskable, hp], hh⟩
  · exact ⟨by simp [State.acceptsNmi, hn], by simp [State.acceptsMaskable, hd], hh⟩

/-- Settles O15: the blocked step executes, and EI's delay is off when its instruction starts. -/
theorem blockedAcceptanceExecutes : Obligations.BlockedAcceptanceExecutes := by
  intro s hh hb
  obtain ⟨d, hd⟩ := s.decode_bytesAt s.pendingPrefix s.pc
  have he := exec_eq d.instr (s.beginStep.fetched d)
  obtain ⟨hnmi, hint, -, -, -, -, -, hei, -⟩ := hiddenStateWriters _ _ _ he
  refine ⟨d, _, _, hd, he, step_of_executes (State.executes_of_blocked hh hb) hd, ?_⟩
  rw [State.finished_eq]
  exact ⟨rfl, rfl, hint, hnmi, fun on => (hei fun same => Bool.false_ne_true (same.symm.trans on)).2⟩

/-! The invariant. -/

theorem respond_inv (c : Cause) {s : State} (h : s.MemWf) : (respond c s.beginStep).Inv := by
  have w : (takeInterrupt c s.beginStep).MemWf := takeInterrupt_memWf c h
  exact ⟨w, by simp [respond, State.noteQ], by simp [respond], by simp [respond]⟩

theorem haltedIdle_inv {s : State} (h : s.Inv) : (haltedIdle s.beginStep).Inv := by
  obtain ⟨hw, -, hp, -⟩ := h
  exact ⟨hw, by simp [haltedIdle, State.noteQ], hp, by simp [haltedIdle]⟩

/-- An instruction starts with EI's delay off, not halted and with no prefix pending; it sets at most one of these, and
EI's delay only together with both flip-flops (R88, R261, R263). -/
theorem finished_inv {i : Instr} {s t : State} (pending : Option Idx) (e : exec i s = .next t) (hw : s.MemWf)
    (hh : s.halted = false) (hp : s.pendingPrefix = none) (hd : s.eiDelay = false) : (t.finished pending i).Inv := by
  obtain ⟨-, -, -, -, -, -, hhalt, hei, hpend⟩ := hiddenStateWriters i s t e
  rw [State.finished_eq]
  refine ⟨(exec_writesLogged e).memWf hw, by simp +contextual, fun pend => ?_, fun delay => ?_⟩
  · obtain ⟨_, _, hop, -⟩ := hpend fun same => pend (same.trans hp)
    by_contra halts
    simpa [hop] using hhalt fun same => halts (same.trans hh)
  · obtain ⟨-, hop⟩ := hei fun same => Bool.false_ne_true (hd.symm.trans (same.symm.trans delay))
    have hc := exec_controlAfter e
    obtain hop | ⟨ii, hop⟩ := hop
    all_goals
      rw [hop] at hc
      exact ⟨congrArg Control.iff1 hc, congrArg Control.iff2 hc⟩

/-- Settles O10, by what a step can be. -/
theorem stepKeepsInvariant : Obligations.StepKeepsInvariant := by
  intro s t h hs
  have hw : s.MemWf := h.1
  obtain ⟨-, rfl⟩ | ⟨-, -, rfl⟩ | ⟨-, -, -, rfl⟩ | ⟨⟨-, -, hh⟩, d, -, rfl⟩ := step_cases hs
  · exact respond_inv .nmi hw
  · exact respond_inv (maskableCause s.im) hw
  · exact haltedIdle_inv h
  · exact finished_inv s.pendingPrefix (exec_eq _ _) hw hh rfl rfl

/-- Settles O2: at reset memory lists nothing, and q, the pending prefix and EI's delay are off. -/
theorem resetMeetsInvariant : Obligations.ResetMeetsInvariant :=
  ⟨rfl, fun _ => rfl, fun _ => rfl, fun h => absurd h Bool.false_ne_true⟩

end Sys2Proof.Machine
end

section
/-! A pending prefix decodes as if it had just been fetched: the number of prefix bytes fetched before the opcode byte
only adds to the size. -/

namespace Sys2Proof

/-- What was decoded, with one byte more fetched before it. -/
def Decoded.grow (d : Decoded) : Decoded := { d with size := d.size + 1 }

theorem Form.take_succ (f : Form) (op : Byte) (size : Nat) (rest : List Byte) :
    f.take op (size + 1) rest = (f.take op size rest).map Decoded.grow := by
  cases f
  case word | bytes =>
    match rest with
    | [] | [_] | _ :: _ :: _ => rfl
  all_goals cases rest <;> rfl

theorem takeAt_succ (f : Option Form) (op : Byte) (size : Nat) (rest : List Byte) :
    takeAt f op (size + 1) rest = (takeAt f op size rest).map Decoded.grow := by
  cases f
  case none => rfl
  case some f => exact f.take_succ op size rest

theorem decodeEd_succ (size : Nat) (bytes : List Byte) :
    decodeEd (size + 1) bytes = (decodeEd size bytes).map Decoded.grow := by
  cases bytes
  case nil => rfl
  case cons op rest => exact takeAt_succ _ op size rest

theorem decodeIdxCb_succ (ii : Idx) (k : Nat) (bytes : List Byte) :
    decodeIdxCb ii (k + 1) bytes = (decodeIdxCb ii k bytes).map Decoded.grow := by
  match bytes with
  | [] | [_] => rfl
  | d :: op :: _ =>
    simp only [decodeIdxCb]
    cases gridAt (idxCbGrid ii d) op
    case none => rfl
    case some i => simp [Except.map, Decoded.grow]

theorem withIgnoredPrefix_grow (ii : Idx) (r : Except DecodeError Decoded) :
    withIgnoredPrefix ii (r.map Decoded.grow) = (withIgnoredPrefix ii r).map Decoded.grow := by
  cases r
  case error => rfl
  case ok d =>
    simp only [withIgnoredPrefix, Except.map, Decoded.grow]
    cases d.instr.op <;> rfl

theorem decodeIndexed_succ (ii : Idx) (k : Nat) (bytes : List Byte) :
    decodeIndexed ii (k + 1) bytes = (decodeIndexed ii k bytes).map Decoded.grow := by
  cases bytes
  case nil => rfl
  case cons op rest =>
    rw [decodeIndexed, decodeIndexed]
    split_ifs
    · exact decodeIdxCb_succ ii k rest
    · rw [Nat.add_right_comm, decodeEd_succ, withIgnoredPrefix_grow]
    · rfl
    · rfl
    · exact takeAt_succ _ op (k + 1) rest

theorem map_grow_eq_ok {r : Except DecodeError Decoded} {i : Instr} {n : Nat} :
    r.map Decoded.grow = .ok ⟨i, n + 1⟩ ↔ r = .ok ⟨i, n⟩ := by
  cases r
  case error => simp [Except.map]
  case ok d =>
    obtain ⟨j, m⟩ := d
    simp [Except.map, Decoded.grow]

/-- A prefix byte puts the decoder in the state it pends in (R71). -/
theorem decode_prefix (ii : Idx) (bytes : List Byte) : decode none (ii.byte :: bytes) = decodeIndexed ii 1 bytes := by
  cases ii <;> rfl

/-- Settles O6: the prefix byte in front adds one to the size and changes nothing else. -/
theorem pendingPrefixDecodesAlike : Obligations.PendingPrefixDecodesAlike := by
  intro ii bytes i n
  rw [decode_prefix, decodeIndexed_succ, map_grow_eq_ok, decode]

end Sys2Proof
end

section
/-! Memory: what a write of a byte or of a word does, and the instructions that are one read or one write. -/

namespace Sys2Proof.Machine

/-- Calls that write no byte at x leave the byte there alone (R53). -/
theorem Memory.read_replay_of_not_written {calls : List BusCall} (m : List Host.Cell) (x : Word)
    (h : ¬ ∃ v, BusCall.writeMem x v ∈ calls) :
    Memory.read (Memory.replay m calls) x.toNat = Memory.read m x.toNat := by
  induction calls generalizing m with
  | nil => rfl
  | cons c calls ih =>
    rw [Memory.replay_cons, ih _ fun ⟨v, hv⟩ => h ⟨v, List.mem_cons_of_mem _ hv⟩]
    cases c
    case writeMem a v =>
      refine Memory.read_write_other _ _ fun e => h ⟨v, ?_⟩
      rw [BitVec.eq_of_toNat_eq e]
      exact List.mem_cons_self
    all_goals rfl

/-- Settles O24: memory is what the appended calls made of it, and only a write_mem among them changes a byte. -/
theorem memoryOnlyByWriteMem : Obligations.MemoryOnlyByWriteMem := by
  intro i s t e
  obtain ⟨more, hcalls, hmem⟩ := exec_writesLogged e
  refine ⟨more, hcalls, fun x hx => ?_⟩
  by_contra hno
  exact hx (by rw [State.peek, hmem, Memory.read_replay_of_not_written _ x hno, State.peek])

/-- Settles O28: each load is a read and a register write. -/
theorem loadsFromMemory : Obligations.LoadsFromMemory :=
  ⟨fun _ _ s h => exec_of_op h s, fun _ _ s h => exec_of_op h s, fun _ _ s h => exec_of_op h s,
    fun _ _ _ _ s h => ⟨_, rfl, exec_of_op h s⟩⟩

/-- A byte written: memory and the record of calls (R13). -/
theorem State.writeMem_eq (s : State) (a : Word) (v : Byte) :
    s.writeMem a v = { s with mem := (s.writeMem a v).mem, calls := s.calls ++ [.writeMem a v] } := rfl

theorem State.writeMem_stored (s : State) (a : Word) (v : Byte) : Stored s (s.writeMem a v) a v :=
  stored_of_write rfl

/-- A byte written, and the cycle count: what a store through HL does (R103, R104). -/
theorem State.writeMem_took (s : State) (a : Word) (v : Byte) (n : Nat) :
    ∃ t, (s.writeMem a v).took n = t ∧ Stored s t a v ∧
      t = { s with mem := t.mem, calls := s.calls ++ [.writeMem a v], cycles := n } :=
  ⟨_, rfl, s.writeMem_stored a v, congrArg (State.took · n) (s.writeMem_eq a v)⟩

/-- A byte written, MEMPTR and the cycle count: what every other store of a byte does (R106, R107, R113, R115). -/
theorem State.writeMem_setMemptr_took (s : State) (a m : Word) (v : Byte) (n : Nat) :
    ∃ t, ((s.writeMem a v).setMemptr m).took n = t ∧ Stored s t a v ∧
      t = { s with mem := t.mem, memptr := m, calls := s.calls ++ [.writeMem a v], cycles := n } :=
  ⟨_, rfl, s.writeMem_stored a v, congrArg (fun t => (t.setMemptr m).took n) (s.writeMem_eq a v)⟩

/-- Settles O29: each store is one write_mem, at the address the operand names. -/
theorem storesToMemory : Obligations.StoresToMemory := by
  refine ⟨fun i r s h => ?_, fun i n s h => ?_, fun i rr s h => ?_, fun i nn s h => ?_, fun i ii d r s h => ?_,
    fun i ii d n s h => ?_⟩
  · obtain ⟨t, rfl, ht⟩ := s.writeMem_took s.hl (s.main.get r) 7
    exact ⟨_, exec_of_op h s, ht⟩
  · obtain ⟨t, rfl, ht⟩ := s.writeMem_took s.hl n 10
    exact ⟨_, exec_of_op h s, ht⟩
  · obtain ⟨t, rfl, ht⟩ := s.writeMem_setMemptr_took (s.addrPair rr) (pack s.main.a (lowPlusOne (s.addrPair rr)))
      s.main.a 7
    exact ⟨_, exec_of_op h s, ht⟩
  · obtain ⟨t, rfl, ht⟩ := s.writeMem_setMemptr_took nn (pack s.main.a (lowPlusOne nn)) s.main.a 13
    exact ⟨_, exec_of_op h s, ht⟩
  · obtain ⟨t, rfl, ht⟩ := s.writeMem_setMemptr_took (s.ea ii d) (s.ea ii d) (s.main.get r) 19
    exact ⟨_, _, rfl, exec_of_op h s, ht⟩
  · obtain ⟨t, rfl, ht⟩ := s.writeMem_setMemptr_took (s.ea ii d) (s.ea ii d) n 19
    exact ⟨_, _, rfl, exec_of_op h s, ht⟩

/-- Settles O31: each load writes its register with an immediate, a register or the word two reads hand on. -/
theorem pairLoads : Obligations.PairLoads := by
  refine ⟨fun i p nn s h => ?_, fun i ii nn s h => ?_, fun i nn s h => ?_, fun i p nn s h => ?_,
    fun i ii nn s h => ?_, fun i s h => exec_of_op h s, fun i ii s h => exec_of_op h s⟩
  · exact exec_of_op h s
  · exact exec_of_op h s
  · rw [exec_of_op h, runOp, runBase, doLdHl, State.readMem16_eq]
    simp [State.setHl, State.took, State.setMemptr, State.log]
  · rw [exec_of_op h, runOp, runEd, doLdPair, State.readMem16_eq]
    cases p <;>
      simp [State.setPair, State.setBc, State.setDe, State.setHl, State.setSp, State.took, State.setMemptr, State.log]
  · rw [exec_of_op h, runOp, runIdx, doIdxLd, State.readMem16_eq]
    cases ii <;> simp [State.setIdx, State.took, State.setMemptr, State.log]

/-- A 16-bit write: two bytes of memory and the record of calls (R60). -/
theorem State.writeMem16_eq (s : State) (a w : Word) :
    s.writeMem16 a w = { s with
      mem := (s.writeMem16 a w).mem,
      calls := s.calls ++ [.writeMem a (loByte w), .writeMem (a + 1#16) (hiByte w)] } := by
  simp [State.writeMem16, State.writeMem, State.log, State.poke]

theorem State.writeMem16_stored2 (s : State) (a w : Word) :
    Stored2 s (s.writeMem16 a w) a (loByte w) (a + 1#16) (hiByte w) :=
  stored2_of_write (word_ne_succ a) rfl

/-- A 16-bit write, MEMPTR and the cycle count: what a store of a pair does (R125 to R127). -/
theorem State.writeMem16_setMemptr_took (s : State) (a w m : Word) (n : Nat) :
    ∃ t, ((s.writeMem16 a w).setMemptr m).took n = t ∧ Stored2 s t a (loByte w) (a + 1#16) (hiByte w) ∧
      t = { s with
            mem := t.mem, memptr := m,
            calls := s.calls ++ [.writeMem a (loByte w), .writeMem (a + 1#16) (hiByte w)], cycles := n } :=
  ⟨_, rfl, s.writeMem16_stored2 a w, congrArg (fun t => (t.setMemptr m).took n) (s.writeMem16_eq a w)⟩

/-- Settles O32: each store is a 16-bit write at nn. -/
theorem pairStores : Obligations.PairStores := by
  refine ⟨fun i nn s h => ?_, fun i nn p s h => ?_, fun i ii nn s h => ?_⟩
  · obtain ⟨t, rfl, ht⟩ := s.writeMem16_setMemptr_took nn s.hl (nn + 1#16) 16
    rw [State.hl, loByte_pack, hiByte_pack] at ht
    exact ⟨_, exec_of_op h s, ht⟩
  · obtain ⟨t, rfl, ht⟩ := s.writeMem16_setMemptr_took nn (s.pair p) (nn + 1#16) 20
    exact ⟨_, exec_of_op h s, ht⟩
  · obtain ⟨t, rfl, ht⟩ := s.writeMem16_setMemptr_took nn (s.idx ii) (nn + 1#16) 20
    exact ⟨_, exec_of_op h s, ht⟩

end Sys2Proof.Machine
end

section
/-! The ports, the counting of a byte of memory, and the block I/O instructions. -/

namespace Sys2Proof.Machine

theorem flagsAre_szyx (v : Byte) (h pv n c : Bool) :
    FlagsAre (szyx v h pv n c) (v.getLsbD 7) (v == 0#8) (v.getLsbD 5) h (v.getLsbD 3) pv n c :=
  flagsAre_packF _ _ _ _ _ _ _ _

/-- Settles O57: F comes from the byte read alone, but for the carry, and the register copy does not reach it. -/
theorem inputs : Obligations.Inputs := by
  refine ⟨fun i n s h => ⟨_, rfl, ?_⟩,
    fun i s copy h => ⟨_, parityFlags s.ioAnswer s.main.f, rfl, flagsAre_szyx _ _ _ _ _, ?_⟩⟩
  · rw [exec_of_op h, runOp, runBase, doInAN, State.readIo_eq, State.portN, loByte_pack]
    rfl
  · obtain ⟨h, rfl⟩ | ⟨r, h, rfl⟩ := h
    · rw [exec_of_op h, runOp, runEd, doInF, State.readIo_eq, State.bc, loByte_pack]
      rfl
    · rw [exec_of_op h, runOp, runEd, doInReg, State.readIo_eq, State.bc, loByte_pack]
      rfl

/-- Settles O58: one write_io each, to the low byte of the port value. -/
theorem outputs : Obligations.Outputs := by
  refine ⟨fun i n s h => ?_, fun i s v h => ?_⟩
  · rw [exec_of_op h, runOp, runBase, doOutNA, State.writeIo, State.portN, loByte_pack]
    rfl
  · obtain ⟨r, h, rfl⟩ | ⟨h, rfl⟩ := h
    · rw [exec_of_op h, runOp, runEd, doOutReg, State.writeIo, State.bc, loByte_pack]
      rfl
    · rw [exec_of_op h, runOp, runEd, doOutZero, State.writeIo, State.bc, loByte_pack]
      rfl

/-- A byte read, changed and written back with F set from it: what INC and DEC of memory do (R170, R174). -/
theorem State.modifyF_took (s : State) (a : Word) (f g : Byte → Byte) (n : Nat) :
    ∃ t, (s.modifyF a f g).took n = t ∧ Stored s t a (f (s.peek a)) ∧
      t = { s with
            mem := t.mem, main := { s.main with f := g (s.peek a) },
            calls := s.calls ++ [.readMem a (s.peek a), .writeMem a (f (s.peek a))], cycles := n } := by
  refine ⟨_, rfl, s.writeMem_stored a _, ?_⟩
  simp [State.modifyF, State.readMem_eq, State.writeMem, State.log, State.poke, State.setF, State.took]

/-- Settles O43: one `modifyF` each, for the indexed form with MEMPTR set first. -/
theorem memoryCounting : Obligations.MemoryCounting := by
  refine ⟨fun i s h => ?_, fun i s h => ?_, fun i ii d s h => ?_, fun i ii d s h => ?_⟩
  · obtain ⟨t, rfl, ht⟩ := s.modifyF_took s.hl (fun v => (inc8 v s.main.f).1) (fun v => (inc8 v s.main.f).2) 11
    exact ⟨_, _, rfl, exec_of_op h s, ht⟩
  · obtain ⟨t, rfl, ht⟩ := s.modifyF_took s.hl (fun v => (dec8 v s.main.f).1) (fun v => (dec8 v s.main.f).2) 11
    exact ⟨_, _, rfl, exec_of_op h s, ht⟩
  · obtain ⟨t, rfl, ht⟩ := (s.setMemptr (s.ea ii d)).modifyF_took (s.ea ii d)
      (fun v => (inc8 v s.main.f).1) (fun v => (inc8 v s.main.f).2) 23
    exact ⟨_, _, _, rfl, rfl, exec_of_op h s, ht⟩
  · obtain ⟨t, rfl, ht⟩ := (s.setMemptr (s.ea ii d)).modifyF_took (s.ea ii d)
      (fun v => (dec8 v s.main.f).1) (fun v => (dec8 v s.main.f).2) 23
    exact ⟨_, _, _, rfl, rfl, exec_of_op h s, ht⟩

theorem lo3_eq_mod (v : Byte) : lo3 v = BitVec.ofNat 8 (v.toNat % 8) := by
  revert v
  decide

theorem lo3_ofNat (k : Nat) : lo3 (BitVec.ofNat 8 k) = BitVec.ofNat 8 (k % 8) := by
  rw [lo3_eq_mod, BitVec.toNat_ofNat, Nat.mod_mod_of_dvd k (by decide : 8 ∣ 2 ^ 8)]

theorem lo4_beq_zero (v : Byte) : (lo4 v == 0x0#4) = decide (v.toNat % 16 = 0) := by
  revert v
  decide

theorem lo4_beq_fifteen (v : Byte) : (lo4 v == 0xF#4) = decide (v.toNat % 16 = 15) := by
  revert v
  decide

/-- The flags of an iteration that does not repeat (R159). -/
theorem blockIoFlags_are (b v : Byte) (k : Nat) (pc : Word) :
    BlockIoFlagsAre (blockIoFlags b v k) b v k false pc := by
  simp [BlockIoFlagsAre, FlagsAre, blockIoFlags, szyx, lo3_ofNat]

/-- The flags of an iteration that repeats under `pc_based`, by carry and by the byte's bit 7 (R158). -/
theorem blockIoRepeatFlags_are (b v : Byte) (k : Nat) (pc : Word) :
    BlockIoFlagsAre (blockIoRepeatFlags b v (pcYx pc (blockIoFlags b v k))) b v k true pc := by
  by_cases carry : 255 < k
  · cases sign : v[7] <;>
      simp [BlockIoFlagsAre, FlagsAre, blockIoRepeatFlags, pcYx, blockIoFlags, szyx, lo3_eq_mod, lo4_beq_zero,
        lo4_beq_fifteen, carry, sign]
  · simp [BlockIoFlagsAre, FlagsAre, blockIoRepeatFlags, pcYx, blockIoFlags, szyx, lo3_eq_mod, carry]

/-- The repeat test on flags the iteration has just set: what becomes of F, PC and the cycle count (R151, R158,
R159). -/
theorem State.repeatIo_ends {s : State} {v : Byte} {k : Nat} (rep : Bool)
    (h : s.main.f = blockIoFlags s.main.b v k) :
    ∃ f again, again = (rep && decide (s.main.b ≠ 0#8)) ∧
      BlockIoFlagsAre f s.main.b v k (again && decide (s.params.blockRepeatFlags = .pcBased)) (s.pc - 2#16) ∧
      s.repeatIo rep v = { s with
        main := { s.main with f := f }, pc := if again then s.pc - 2#16 else s.pc,
        cycles := if again then 21 else 16 } := by
  refine ⟨(s.repeatIo rep v).main.f, _, rfl, ?_⟩
  simp only [State.repeatIo, show (s.main.b != 0#8) = decide (s.main.b ≠ 0#8) from decide_not.symm]
  cases rep && decide (s.main.b ≠ 0#8)
  case false =>
    refine ⟨?_, rfl⟩
    rw [if_neg Bool.false_ne_true, State.took_main, h, Bool.false_and]
    exact blockIoFlags_are _ _ _ _
  case true =>
    refine ⟨?_, rfl⟩
    rw [if_pos rfl, Bool.true_and, State.repeatBlock]
    cases s.params.blockRepeatFlags
    case classic =>
      simp only [State.took_main, State.setPc_main, State.setF_main, h]
      exact blockIoFlags_are _ _ _ _
    case pcBased =>
      simp only [State.took_main, State.setPc_main, State.setF_main, h]
      exact blockIoRepeatFlags_are _ _ _ _

theorem stepWord_eq (d : Dir) (w : Word) : stepWord d w = if d = .inc then w + 1#16 else w - 1#16 := by
  cases d <;> rfl

theorem stepByte_eq (d : Dir) (v : Byte) : stepByte d v = if d = .inc then v + 1#8 else v - 1#8 := by
  cases d <;> rfl

/-- A block input up to its repeat test (R149, R150). -/
def State.afterBlockIn (s : State) (d : Dir) : State :=
  { s with
    main := { s.main with
      b := s.main.b - 1#8, h := hiByte (stepWord d s.hl), l := loByte (stepWord d s.hl),
      f := blockIoFlags (s.main.b - 1#8) s.ioAnswer (s.ioAnswer.toNat + (stepByte d s.main.c).toNat) },
    mem := Memory.write s.mem s.hl.toNat s.ioAnswer, memptr := stepWord d s.bc,
    ioAnswers := s.ioAnswers.tail, draws := if s.ioAnswers.isEmpty then s.draws + 1 else s.draws,
    calls := s.calls ++ [.readIo s.main.c s.ioAnswer, .writeMem s.hl s.ioAnswer] }

theorem doBlockIn_eq (d : Dir) (rep : Bool) (s : State) :
    doBlockIn d rep s = (s.afterBlockIn d).repeatIo rep s.ioAnswer := by
  simp [doBlockIn, State.afterBlockIn, State.readIo_eq, State.nextIo, State.log, State.setMemptr, State.setB,
    State.writeMem, State.poke, State.setHl, State.setF, State.bc, State.hl]

/-- A block output up to its repeat test (R153, R154). -/
def State.afterBlockOut (s : State) (d : Dir) : State :=
  { s with
    main := { s.main with
      b := s.main.b - 1#8, h := hiByte (stepWord d s.hl), l := loByte (stepWord d s.hl),
      f := blockIoFlags (s.main.b - 1#8) (s.peek s.hl)
        ((s.peek s.hl).toNat + (loByte (stepWord d s.hl)).toNat) },
    memptr := stepWord d (pack (s.main.b - 1#8) s.main.c),
    calls := s.calls ++ [.readMem s.hl (s.peek s.hl), .writeIo s.main.c (s.peek s.hl)] }

theorem doBlockOut_eq (d : Dir) (rep : Bool) (s : State) :
    doBlockOut d rep s = (s.afterBlockOut d).repeatIo rep (s.peek s.hl) := by
  simp [doBlockOut, State.afterBlockOut, State.readMem_eq, State.log, State.setMemptr, State.setB, State.writeIo,
    State.setHl, State.setF, State.bc, State.hl]

/-- Settles O38: the iteration's own updates, then the repeat test. -/
theorem blockInputs : Obligations.BlockInputs := by
  intro i d rep s h
  obtain ⟨f, _, rfl, flags, ends⟩ := State.repeatIo_ends (s := s.afterBlockIn d) (v := s.ioAnswer) rep rfl
  simp only [← stepWord_eq, ← stepByte_eq]
  exact ⟨_, _, _, _, _, rfl, rfl, rfl, rfl,
    (exec_of_op h s).trans (congrArg _ ((doBlockIn_eq d rep s).trans ends)), stored_of_write rfl, flags,
    rfl, rfl, rfl, rfl, pack_hiByte_loByte _, rfl⟩

/-- Settles O39: the iteration's own updates, then the repeat test. -/
theorem blockOutputs : Obligations.BlockOutputs := by
  intro i d rep s h
  obtain ⟨f, _, rfl, flags, ends⟩ := State.repeatIo_ends (s := s.afterBlockOut d) (v := s.peek s.hl) rep rfl
  simp only [← stepWord_eq]
  exact ⟨_, _, _, _, _, _, rfl, rfl, rfl, rfl, rfl,
    (exec_of_op h s).trans (congrArg _ ((doBlockOut_eq d rep s).trans ends)), flags,
    rfl, rfl, rfl, rfl, pack_hiByte_loByte _, rfl⟩

end Sys2Proof.Machine
end

section
/-! The decoder fetches no more bytes than it is given. -/

namespace Sys2Proof

/-- The operand bytes a cell takes are among the bytes given. -/
theorem Form.take_size {f : Form} {op : Byte} {size : Nat} {rest : List Byte} {d : Decoded}
    (h : f.take op size rest = .ok d) : d.size ≤ size + rest.length := by
  cases f
  case prefixByte => cases h
  case plain | unassigned =>
    cases h
    exact Nat.le_add_right _ _
  case byte =>
    cases rest <;> cases h
    simp
  case word | bytes =>
    match rest with
    | [] | [_] => cases h
    | _ :: _ :: _ =>
      cases h
      simp

theorem takeAt_size {f : Option Form} {op : Byte} {size : Nat} {rest : List Byte} {d : Decoded}
    (h : takeAt f op size rest = .ok d) : d.size ≤ size + rest.length := by
  cases f
  case none => cases h
  case some f => exact Form.take_size h

/-- The opcode byte is one of `size`, and one of the bytes given. -/
theorem decodeEd_size {size : Nat} {bytes : List Byte} {d : Decoded} (h : decodeEd size bytes = .ok d) :
    d.size + 1 ≤ size + bytes.length := by
  cases bytes
  case nil => cases h
  case cons op rest => exact Nat.succ_le_succ (takeAt_size h)

theorem decodeCb_size {bytes : List Byte} {d : Decoded} (h : decodeCb bytes = .ok d) : d.size ≤ 1 + bytes.length := by
  cases bytes
  case nil => cases h
  case cons op rest =>
    rw [decodeCb] at h
    cases hc : gridAt cbGrid op <;> rw [hc] at h <;> cases h
    simp only [List.length_cons]
    omega

/-- The CB byte is fetched besides the prefix and the bytes given. -/
theorem decodeIdxCb_size {ii : Idx} {k : Nat} {bytes : List Byte} {d : Decoded}
    (h : decodeIdxCb ii k bytes = .ok d) : d.size ≤ k + 1 + bytes.length := by
  match bytes with
  | [] | [_] => cases h
  | e :: op :: rest =>
    rw [decodeIdxCb] at h
    cases hc : gridAt (idxCbGrid ii e) op <;> rw [hc] at h <;> cases h
    simp only [List.length_cons]
    omega

theorem withIgnoredPrefix_ok {ii : Idx} {r : Except DecodeError Decoded} {d : Decoded}
    (h : withIgnoredPrefix ii r = .ok d) : ∃ e, r = .ok e ∧ d.size = e.size := by
  cases r
  case error => cases h
  case ok e =>
    refine ⟨e, rfl, ?_⟩
    rw [withIgnoredPrefix] at h
    split at h <;> cases h
    rfl

theorem decodeIndexed_size {ii : Idx} {k : Nat} {bytes : List Byte} {d : Decoded}
    (h : decodeIndexed ii k bytes = .ok d) : d.size ≤ k + bytes.length := by
  cases bytes
  case nil => cases h
  case cons op rest =>
    rw [decodeIndexed] at h
    rw [List.length_cons, ← Nat.add_assoc, Nat.add_right_comm]
    split_ifs at h
    · exact decodeIdxCb_size h
    · obtain ⟨e, he, hsize⟩ := withIgnoredPrefix_ok h
      have := decodeEd_size he
      omega
    · cases h
      exact Nat.le_add_right _ _
    · cases h
      exact Nat.le_add_right _ _
    · exact takeAt_size h

/-- An instruction is among the bytes it is decoded from (R71). -/
theorem decode_size {pending : Option Idx} {bytes : List Byte} {d : Decoded} (h : decode pending bytes = .ok d) :
    d.size ≤ bytes.length := by
  cases pending
  case some ii => simpa using decodeIndexed_size h
  case none =>
    cases bytes
    case nil => cases h
    case cons op rest =>
      rw [decode, decodeBase] at h
      rw [List.length_cons, Nat.add_comm]
      split_ifs at h
      · exact decodeCb_size h
      · have := decodeEd_size h
        omega
      · exact decodeIndexed_size h
      · exact decodeIndexed_size h
      · exact takeAt_size h

end Sys2Proof
end

section
/-! What a step costs: the calls an instruction or a response makes, and its cycles. -/

namespace Sys2Proof.Machine

/-- A memory access. -/
@[simp] def BusCall.isMem : BusCall → Bool
  | .readMem _ _ | .writeMem _ _ => true
  | .readIo _ _ | .writeIo _ _ | .pollPending _ | .vectorLowByte _ => false

/-- An I/O access. -/
@[simp] def BusCall.isIo : BusCall → Bool
  | .readIo _ _ | .writeIo _ _ => true
  | .readMem _ _ | .writeMem _ _ | .pollPending _ | .vectorLowByte _ => false

/-- A vector_low_byte(). -/
@[simp] def BusCall.isVector : BusCall → Bool
  | .vectorLowByte _ => true
  | .readMem _ _ | .writeMem _ _ | .readIo _ _ | .writeIo _ _ | .pollPending _ => false

/-- The calls that t records after `calls` are no poll_pending(), at most four memory accesses, at most one I/O access
and as many vector_low_byte() as `vectors`; and t has at most `cycles` cycles (R58, R300, R345). -/
def State.Costs (t : State) (calls : List BusCall) (vectors cycles : Nat) : Prop :=
  ∃ more, t.calls = calls ++ more ∧ (∀ c ∈ more, ∀ b, c ≠ .pollPending b) ∧
    (more.filter BusCall.isMem).length ≤ 4 ∧ (more.filter BusCall.isIo).length ≤ 1 ∧
    (more.filter BusCall.isVector).length = vectors ∧ t.cycles ≤ cycles

theorem State.Costs.addCycles {t : State} {l : List BusCall} {v m : Nat} (h : t.Costs l v m) (n : Nat) :
    (t.addCycles n).Costs l v (m + n) := by
  obtain ⟨more, calls, polls, mems, ios, vectors, cycles⟩ := h
  exact ⟨more, calls, polls, mems, ios, vectors, Nat.add_le_add_right cycles n⟩

theorem State.Costs.mono {t : State} {l : List BusCall} {v m n : Nat} (h : t.Costs l v m) (le : m ≤ n) :
    t.Costs l v n := by
  obtain ⟨more, calls, polls, mems, ios, vectors, cycles⟩ := h
  exact ⟨more, calls, polls, mems, ios, vectors, cycles.trans le⟩

theorem runBase_costs (o : BaseOp) (s : State) : (runBase o s).Costs s.calls 0 19 := by
  unfold State.Costs
  cases o
  case djnz | jrCc | jpCc | callCc | retCc =>
    simp only [runBase, doDjnz, doJrCc, doJpCc, doCallCc, doRetCc, State.pop16, State.readMem_eq]
    split <;> simp [List.filter_cons]
  all_goals
    simp [runBase, doNop, doExAfAf, doJr, doLdPairN, doAddHl, doStA, doLdA, doStHl, doLdHl, doStAAbs, doLdAAbs,
      doIncPair, doDecPair, doIncReg, doIncMem, doDecReg, doDecMem, doLdRegN, doLdMemN, doRlca, doRrca, doRla, doRra,
      doDaa, doCpl, doScf, doCcf, doHalt, doLdRegReg, doLdRegMem, doLdMemReg, doAluReg, doAluMem, doAluN, doPop, doPush,
      doRet, doExx, doJpHl, doLdSpHl, doJp, doOutNA, doInAN, doExSpHl, doExDeHl, doDi, doEi, doCall, doRst, State.alu,
      State.rotateA, State.modifyF, State.pop16, State.exchangeTop, State.readMem_eq, State.readMem16_eq,
      State.readIo_eq, State.writeIo,
      List.filter_cons]

theorem runCb_costs (o : CbOp) (s : State) : (runCb o s).Costs s.calls 0 15 := by
  unfold State.Costs
  cases o <;>
    simp [runCb, doRotReg, doRotMem, doBitReg, doBitMem, doResReg, doResMem, doSetReg, doSetMem, State.modify,
      State.modifyF, State.readMem_eq, List.filter_cons]

@[simp] theorem State.repeatBlock_cycles (s : State) (g : Byte → Byte) : (s.repeatBlock g).cycles = 21 := rfl

@[simp] theorem State.repeatIo_cycles_le (s : State) (rep : Bool) (t : Byte) : (s.repeatIo rep t).cycles ≤ 21 := by
  unfold State.repeatIo
  split <;> simp

theorem runEd_costs (o : EdOp) (s : State) : (runEd o s).Costs s.calls 0 21 := by
  unfold State.Costs
  cases o
  case blockLd | blockCp =>
    simp only [runEd, doBlockLd, doBlockCp, State.readMem_eq]
    split <;> simp [List.filter_cons]
  all_goals
    simp [runEd, doInReg, doInF, doOutReg, doOutZero, doSbcHl, doAdcHl, doStPair, doLdPair, doNeg, doRetn, doReti, doIm,
      doLdIA, doLdRA, doLdAI, doLdAR, doRrd, doRld, doBlockIn, doBlockOut, doNopStar, returnFromInterrupt_eq,
      State.readMem_eq, State.readMem16_eq, State.readIo_eq, State.writeIo,
      List.filter_cons]

theorem runIdx_costs (ii : Idx) (o : IdxOp) (s : State) : (runIdx ii o s).Costs s.calls 0 23 := by
  unfold State.Costs
  cases o <;>
    simp [runIdx, doIdxAdd, doIdxLdN, doIdxSt, doIdxLd, doIdxInc, doIdxDec, doIdxIncHalf, doIdxDecHalf, doIdxLdHalfN,
      doIdxIncMem, doIdxDecMem, doIdxLdMemN, doIdxLdRegReg, doIdxLdRegMem, doIdxLdMemReg, doIdxAluHalf, doIdxAluMem,
      doIdxPop, doIdxPush, doIdxExSp, doIdxJp, doIdxLdSp, State.indexed, State.alu, State.modifyF, State.pop16,
      State.exchangeTop, State.readMem_eq, State.readMem16_eq, List.filter_cons]

theorem runIdxCb_costs (ii : Idx) (d : Byte) (o : IdxCbOp) (s : State) : (runIdxCb ii d o s).Costs s.calls 0 23 := by
  unfold State.Costs
  cases o <;> simp [runIdxCb, doIdxRot, doIdxBit, doIdxRes, doIdxSet, State.indexed, State.modify, State.modifyF,
    State.readMem_eq, List.filter_cons]

/-- Everything an instruction may cost: the most cycles are those of a repeating block instruction, 21, and an ignored
index byte before it, 4 (R140, R266). -/
theorem runOp_costs (o : Op) (s : State) : (runOp o s).Costs s.calls 0 25 := by
  cases o
  case base o => exact (runBase_costs o s).mono (by decide)
  case cb o => exact (runCb_costs o s).mono (by decide)
  case ed o => exact (runEd_costs o s).mono (by decide)
  case idx ii o => exact (runIdx_costs ii o s).mono (by decide)
  case idxCb ii d o => exact (runIdxCb_costs ii d o s).mono (by decide)
  case ignored o => exact ((runBase_costs o s).addCycles 4).mono (by decide)
  case ignoredEd o => exact (runEd_costs o s).addCycles 4
  case redundant => exact ⟨[], by simp [runOp, doRedundant]⟩

/-- A response pushes PC, and in IM 2 asks for the vector and reads the table (R310, R314, R316). -/
theorem takeInterrupt_costs (c : Cause) (s : State) :
    (takeInterrupt c s).Costs s.calls (if c = .int2 then 1 else 0) 19 := by
  rw [takeInterrupt_eq]
  unfold State.Costs
  cases c <;> simp [State.handler, State.vectorLowByte, State.readMem16_eq, Cause.cycles, List.filter_cons]

/-! A step. -/

theorem Op.m1_le (o : Op) : o.m1 ≤ 3 := by
  cases o <;> simp [Op.m1]

theorem stepM1_le (pending : Option Idx) (i : Instr) : stepM1 pending i ≤ 3 := by
  cases pending
  case none => exact Op.m1_le i.op
  case some => exact (Nat.sub_le _ _).trans (Op.m1_le i.op)

theorem takeInterrupt_params (c : Cause) (s : State) : (takeInterrupt c s).params = s.params := by
  rw [takeInterrupt_eq]
  cases c <;> simp [State.handler, State.vectorLowByte, State.readMem16_eq]

theorem maskableCause_eq_int2 {m : IntMode} : maskableCause m = .int2 ↔ m = .im2 := by
  cases m <;> simp [maskableCause]

theorem respond_costs (c : Cause) (s : State) :
    (respond c s.beginStep).Costs [.pollPending s.pollAnswer] (if c = .int2 then 1 else 0)
      (19 + s.params.m1Wait * 1) := by
  obtain ⟨more, calls, polls, mems, ios, vectors, cycles⟩ := takeInterrupt_costs c s.beginStep
  refine ⟨more, calls, polls, mems, ios, vectors, ?_⟩
  simpa [respond, State.addWaits, takeInterrupt_params] using cycles

theorem haltedIdle_costs (s : State) :
    (haltedIdle s.beginStep).Costs [.pollPending s.pollAnswer] 0 (4 + s.params.m1Wait * 1) :=
  ⟨[], by simp [haltedIdle, State.addWaits]⟩

theorem finished_costs (s : State) (d : Decoded) :
    ((runOp d.instr.op (s.beginStep.fetched d)).finished s.pendingPrefix d.instr).Costs
      (.pollPending s.pollAnswer :: s.fetchCalls s.pc d.size) 0
      (25 + s.params.m1Wait * stepM1 s.pendingPrefix d.instr) := by
  obtain ⟨more, calls, polls, mems, ios, vectors, cycles⟩ := runOp_costs d.instr.op (s.beginStep.fetched d)
  obtain ⟨-, -, params, -⟩ := hiddenStateWriters d.instr (s.beginStep.fetched d) _ (exec_eq _ _)
  rw [congrArg State.calls (s.beginStep_fetched d)] at calls
  rw [State.finished_eq, params]
  exact ⟨more, calls, polls, mems, ios, vectors, Nat.add_le_add_right ((Nat.sub_le _ _).trans cycles) _⟩

/-- What every kind of step costs, after poll_pending() and the fetches (R58, R300, R301, R345). -/
theorem step_costs {s t : State} (h : step s = .next t) :
    ∃ n, n ≤ 5 ∧ (¬ s.Executes → n = 0) ∧
      (s.Executes → ∃ d, decode s.pendingPrefix (s.bytesAt s.pc 5) = .ok d ∧ n = d.size) ∧
      t.Costs (.pollPending s.pollAnswer :: s.fetchCalls s.pc n)
        (if s.acceptsNmi = false ∧ s.acceptsMaskable = true ∧ s.im = .im2 then 1 else 0)
        (25 + 3 * s.params.m1Wait) := by
  obtain ⟨hn, rfl⟩ | ⟨hn, hm, rfl⟩ | ⟨hn, hm, hh, rfl⟩ | ⟨⟨hn, hm, hh⟩, d, hd, rfl⟩ := step_cases h
  · refine ⟨0, by decide, fun _ => rfl, fun ⟨no, _⟩ => ?_, ?_⟩
    · simp [hn] at no
    · simp only [hn, Bool.true_eq_false, false_and, if_false]
      exact (respond_costs .nmi s).mono (by omega)
  · refine ⟨0, by decide, fun _ => rfl, fun ⟨_, no, _⟩ => ?_, ?_⟩
    · simp [hm] at no
    · simp only [hn, hm, true_and, ← maskableCause_eq_int2]
      exact (respond_costs (maskableCause s.im) s).mono (by omega)
  · refine ⟨0, by decide, fun _ => rfl, fun ⟨_, _, no⟩ => ?_, ?_⟩
    · simp [hh] at no
    · simp only [hm, Bool.false_eq_true, false_and, and_false, if_false]
      exact (haltedIdle_costs s).mono (by omega)
  · refine ⟨d.size, (decode_size hd).trans_eq (s.length_bytesAt s.pc 5), fun no => absurd ⟨hn, hm, hh⟩ no,
      fun _ => ⟨d, hd, rfl⟩, ?_⟩
    simp only [hm, Bool.false_eq_true, false_and, and_false, if_false]
    have := Nat.mul_le_mul_left s.params.m1Wait (stepM1_le s.pendingPrefix d.instr)
    exact (finished_costs s d).mono (by omega)

theorem vectorLowByte_mem_iff (l : List BusCall) :
    (∃ v, BusCall.vectorLowByte v ∈ l) ↔ 0 < (l.filter BusCall.isVector).length := by
  rw [List.length_pos_iff_exists_mem]
  refine ⟨fun ⟨v, h⟩ => ⟨_, List.mem_filter.2 ⟨h, rfl⟩⟩, fun ⟨c, h⟩ => ?_⟩
  obtain ⟨hc, is⟩ := List.mem_filter.1 h
  cases c
  case vectorLowByte v => exact ⟨v, hc⟩
  all_goals cases is

theorem length_filter_le_of_eq {p q : BusCall → Bool} {l : List BusCall} {n : Nat} (same : ∀ c, p c = q c)
    (h : (l.filter q).length ≤ n) : (l.filter p).length ≤ n := by
  rwa [funext same]

/-- Settles O11, by what a step costs: vector_low_byte() is among its calls exactly when it costs one. -/
theorem stepIsBounded : Obligations.StepIsBounded := by
  refine ⟨fun s t h => ?_, fun s t h => ?_⟩
  · obtain ⟨n, hle, hidle, hexec, others, calls, polls, mems, ios, vectors, cycles⟩ := step_costs h
    have once : (others.filter BusCall.isVector).length ≤ 1 := by
      rw [vectors]
      split_ifs <;> decide
    refine ⟨cycles, n, others, calls, hle, hidle, hexec, polls, length_filter_le_of_eq (fun c => ?_) mems,
      length_filter_le_of_eq (fun c => ?_) ios, length_filter_le_of_eq (fun c => ?_) once⟩
    all_goals cases c <;> rfl
  · obtain ⟨n, -, -, -, others, calls, -, -, -, vectors, -⟩ := step_costs h
    have fetches v : BusCall.vectorLowByte v ∉ s.fetchCalls s.pc n := fun h => by
      obtain ⟨_, _, e⟩ := State.mem_fetchCalls h
      cases e
    simp only [calls, List.mem_append, List.mem_cons, reduceCtorEq, fetches, false_or]
    rw [vectorLowByte_mem_iff, vectors]
    split_ifs with im2 <;> simp [im2]

/-! The NMI response. -/

theorem State.acknowledged_stored2 (s : State) (c : Cause) :
    Stored2 s (s.acknowledged c) (s.sp - 1#16) (hiByte s.pc) (s.sp - 2#16) (loByte s.pc) :=
  ⟨s.acknowledged_peek_hi c, s.acknowledged_peek_lo c, fun _ h h' => s.acknowledged_peek_other c h h'⟩

theorem State.acknowledged_nmi_eq (s : State) :
    s.acknowledged .nmi = { s with
      nmiLatch := false, halted := false, r := bumpRefresh 1 s.r, iff2 := s.iff1, iff1 := false, sp := s.sp - 2#16,
      mem := (s.acknowledged .nmi).mem,
      calls := s.calls ++ [.writeMem (s.sp - 1#16) (hiByte s.pc), .writeMem (s.sp - 2#16) (loByte s.pc)] } :=
  State.push16_eq (((s.clearLatch .nmi).wake.bumpR 1).maskInterrupts .nmi) s.pc

theorem respond_nmi_eq (s : State) :
    respond .nmi s.beginStep = { s with
      nmiLatch := false, halted := false, r := bumpRefresh 1 s.r, iff2 := s.iff1, iff1 := false, sp := s.sp - 2#16,
      pc := 0x0066#16, memptr := 0x0066#16, mem := (respond .nmi s.beginStep).mem, eiDelay := false, q := false,
      pollAnswers := s.pollAnswers.tail, draws := if s.pollAnswers.isEmpty then s.draws + 1 else s.draws,
      calls := [.pollPending s.pollAnswer, .writeMem (s.sp - 1#16) (hiByte s.pc),
        .writeMem (s.sp - 2#16) (loByte s.pc)],
      cycles := 11 + s.params.m1Wait } := by
  rw [respond, takeInterrupt_nmi, State.acknowledged_nmi_eq]
  simp [State.jump, State.setPc, State.setMemptr, State.took, State.addWaits, State.addCycles, State.noteQ,
    State.beginStep]

/-- Settles O12: with the latch set and no prefix pending the step is the response. -/
theorem nmiResponse : Obligations.NmiResponse := by
  intro s hn hp
  have hs : step s = .next (respond .nmi s.beginStep) := by simp [step, runStep, State.acceptsNmi, hn, hp]
  refine ⟨_, hs, respond_nmi_eq s, ?_⟩
  rw [respond, takeInterrupt_nmi]
  simpa [Stored2] using s.beginStep.acknowledged_stored2 .nmi

end Sys2Proof.Machine
end

section
/-! Encoding what was decoded: the bytes a decoded instruction is written with are those it was read from. -/

namespace Sys2Proof

open Machine

/-- Two functions of a bit vector agree where their tables of all its values do. -/
theorem eq_of_table_eq {w : Nat} {α : Type} {F G : BitVec w → α}
    (h : (List.range (2 ^ w)).map (fun k => F (BitVec.ofNat w k)) =
      (List.range (2 ^ w)).map fun k => G (BitVec.ofNat w k)) (v : BitVec w) : F v = G v := by
  simpa using List.map_inj_left.1 h v.toNat (List.mem_range.2 v.isLt)

/-- The same for a byte, in sixteen rows of sixteen. -/
theorem eq_of_rows_eq {α : Type} {F G : Byte → α}
    (h : (List.range 16).map (fun r => (List.range 16).map fun c => F (BitVec.ofNat 8 (16 * r + c))) =
      (List.range 16).map fun r => (List.range 16).map fun c => G (BitVec.ofNat 8 (16 * r + c))) (v : Byte) :
    F v = G v := by
  have hv := v.isLt
  have row := List.map_inj_left.1 h (v.toNat / 16) (List.mem_range.2 (by omega))
  simpa [Nat.div_add_mod] using List.map_inj_left.1 row (v.toNat % 16) (List.mem_range.2 (by omega))

/-- The instruction a cell gives, its operands being d, n or nn; none for a prefix byte. -/
noncomputable def Form.fill (f : Form) (op d n : Byte) (nn : Word) : Option Instr :=
  match f with
  | .plain i => some i
  | .byte g => some (g d)
  | .word g => some (g nn)
  | .bytes g => some (g d n)
  | .prefixByte => none
  | .unassigned => some (.nopStar op)

/-- What was decoded, k of its bytes not being among these, is well formed and encodes to the first of them (R70,
R72). -/
structure Decoded.Reads (d : Decoded) (k : Nat) (bytes : List Byte) : Prop where
  wf : d.instr.wf = true
  isPrefix : encode d.instr <+: bytes
  size : d.size = k + (encode d.instr).length

/-- The operand bytes a cell takes, its operands being d, n or nn (R74, R75, R81). -/
def Form.operands (f : Form) (d n : Byte) (nn : Word) : List Byte :=
  match f with
  | .plain _ | .prefixByte | .unassigned => []
  | .byte _ => [d]
  | .word _ => wordBytes nn
  | .bytes _ => [d, n]

/-- An instruction that a cell reads is filled with the operand bytes that come first. -/
theorem Form.take_fill {f : Form} {op : Byte} {size : Nat} {rest : List Byte} {x : Decoded}
    (h : f.take op size rest = .ok x) :
    ∃ d n nn, f.fill op d n nn = some x.instr ∧ f.operands d n nn <+: rest ∧
      x.size = size + (f.operands d n nn).length := by
  cases f
  case prefixByte => cases h
  case plain | unassigned =>
    cases h
    exact ⟨0#8, 0#8, 0#16, rfl, rest.nil_prefix, rfl⟩
  case byte =>
    cases rest <;> cases h
    case cons d rest => exact ⟨d, 0#8, 0#16, rfl, ⟨rest, rfl⟩, rfl⟩
  case word =>
    match rest with
    | [] | [_] => cases h
    | lo :: hi :: rest =>
      cases h
      exact ⟨0#8, 0#8, pack hi lo, rfl, ⟨rest, by simp [Form.operands, wordBytes]⟩, rfl⟩
  case bytes =>
    match rest with
    | [] | [_] => cases h
    | d :: n :: rest =>
      cases h
      exact ⟨d, n, 0#16, rfl, ⟨rest, rfl⟩, rfl⟩

/-- What the instruction in a cell encodes to, and whether it is well formed. -/
noncomputable def Form.written (f : Form) (op d n : Byte) (nn : Word) : Option (List Byte × Bool) :=
  match f.fill op d n nn with
  | none => none
  | some i => some (encode i, i.wf)

/-- What it should encode to: the bytes before the opcode byte, the opcode byte and the operand bytes. -/
def Form.format (f : Form) (pre : List Byte) (op d n : Byte) (nn : Word) : Option (List Byte × Bool) :=
  match f with
  | .prefixByte => none
  | .plain _ | .byte _ | .word _ | .bytes _ | .unassigned => some (pre ++ op :: f.operands d n nn, true)

/-- Every cell of a grid holds the well-formed instruction that `pre`, the opcode byte and the operand bytes encode. -/
def GridEncodes (pre : List Byte) (g : List (List Form)) : Prop :=
  ∀ (d n : Byte) (nn : Word) (op : Byte),
    (gridAt g op).elim none (fun f => f.written op d n nn) = (gridAt g op).bind fun f => f.format pre op d n nn

/-- The base map (R82). -/
theorem baseGrid_encodes : GridEncodes [] baseGrid := fun _ _ _ => eq_of_rows_eq (by rfl)

/-- The maps after an index prefix (R83, R88). -/
theorem idxGrid_encodes (ii : Idx) : GridEncodes [ii.byte] (idxGrid ii) := fun _ _ _ => eq_of_rows_eq (by rfl)

/-- The map after ED (R87, R265). -/
theorem edGrid_encodes : GridEncodes [0xED#8] edGrid := fun _ _ _ => eq_of_rows_eq (by rfl)

/-- The same for the maps of opcode bytes that no operand byte follows. -/
def PlainGridEncodes (pre : List Byte) (g : List (List Instr)) : Prop :=
  ∀ op : Byte,
    (gridAt g op).elim none (fun i => some (encode i, i.wf)) = (gridAt g op).map fun _ => (pre ++ [op], true)

/-- The map after CB (R85). -/
theorem cbGrid_encodes : PlainGridEncodes [0xCB#8] cbGrid := eq_of_rows_eq (by rfl)

/-- The maps after an index prefix, CB and d (R86). -/
theorem idxCbGrid_encodes (ii : Idx) (d : Byte) : PlainGridEncodes [ii.byte, 0xCB#8, d] (idxCbGrid ii d) :=
  eq_of_rows_eq (by rfl)

theorem GridEncodes.encode_fill {pre : List Byte} {g : List (List Form)} (h : GridEncodes pre g) {f : Form}
    {op d n : Byte} {nn : Word} {i : Instr} (hf : gridAt g op = some f) (hi : f.fill op d n nn = some i) :
    encode i = pre ++ op :: f.operands d n nn ∧ i.wf = true := by
  have cell := h d n nn op
  rw [hf, Option.elim_some, Option.bind_some, Form.written, hi] at cell
  cases f
  case prefixByte => cases hi
  all_goals exact Prod.mk.inj (Option.some.inj cell)

theorem PlainGridEncodes.encode_cell {pre : List Byte} {g : List (List Instr)} (h : PlainGridEncodes pre g) {op : Byte}
    {i : Instr} (hi : gridAt g op = some i) : encode i = pre ++ [op] ∧ i.wf = true := by
  have cell := h op
  rw [hi] at cell
  exact Prod.mk.inj (Option.some.inj cell)

/-- What is read from a cell of such a grid is written the same way. -/
theorem GridEncodes.reads {pre : List Byte} {g : List (List Form)} (h : GridEncodes pre g) {k size : Nat} {op : Byte}
    {rest : List Byte} {x : Decoded} (hx : takeAt (gridAt g op) op size rest = .ok x)
    (hsize : size = k + pre.length + 1) : x.Reads k (pre ++ op :: rest) := by
  cases hf : gridAt g op
  case none =>
    rw [hf] at hx
    cases hx
  case some f =>
    rw [hf, takeAt] at hx
    obtain ⟨d, n, nn, fill, isPrefix, size⟩ := Form.take_fill hx
    obtain ⟨he, wf⟩ := h.encode_fill hf fill
    refine ⟨wf, ?_, ?_⟩
    · rw [he, List.prefix_append_right_inj, List.cons_prefix_cons]
      exact ⟨rfl, isPrefix⟩
    · rw [he, size, hsize, List.length_append, List.length_cons]
      omega

theorem decodeEd_reads {k : Nat} {bytes : List Byte} {x : Decoded} (h : decodeEd (k + 2) bytes = .ok x) :
    x.Reads k (0xED#8 :: bytes) := by
  cases bytes
  case nil => cases h
  case cons op rest => exact edGrid_encodes.reads h rfl

theorem decodeCb_reads {bytes : List Byte} {x : Decoded} (h : decodeCb bytes = .ok x) :
    x.Reads 0 (0xCB#8 :: bytes) := by
  cases bytes
  case nil => cases h
  case cons op rest =>
    rw [decodeCb] at h
    cases hi : gridAt cbGrid op <;> rw [hi] at h <;> cases h
    obtain ⟨he, wf⟩ := cbGrid_encodes.encode_cell hi
    exact ⟨wf, ⟨rest, by rw [he]; rfl⟩, by rw [he]; rfl⟩

theorem decodeIdxCb_reads {ii : Idx} {bytes : List Byte} {x : Decoded} (h : decodeIdxCb ii 1 bytes = .ok x) :
    x.Reads 0 (ii.byte :: 0xCB#8 :: bytes) := by
  match bytes with
  | [] | [_] => cases h
  | d :: op :: rest =>
    rw [decodeIdxCb] at h
    cases hi : gridAt (idxCbGrid ii d) op <;> rw [hi] at h <;> cases h
    obtain ⟨he, wf⟩ := (idxCbGrid_encodes ii d).encode_cell hi
    exact ⟨wf, ⟨rest, by rw [he]; rfl⟩, by rw [he]; rfl⟩

/-- An ignored prefix is written before the ED instruction it precedes (R89). -/
theorem withIgnoredPrefix_reads {ii : Idx} {r : Except DecodeError Decoded} {bytes : List Byte} {x : Decoded}
    (hr : ∀ y, r = .ok y → y.Reads 1 bytes) (h : withIgnoredPrefix ii r = .ok x) : x.Reads 0 (ii.byte :: bytes) := by
  cases r
  case error => cases h
  case ok y =>
    obtain ⟨wf, isPrefix, size⟩ := hr y rfl
    rw [withIgnoredPrefix] at h
    split at h <;> cases h
    next o ho =>
      rw [Instr.wf, ho] at wf
      rw [encode_of_op ho] at isPrefix size
      refine ⟨wf, (List.prefix_cons_inj ii.byte).2 isPrefix, ?_⟩
      change y.size = 0 + ((Op.ed o).bytes.length + 1)
      omega

theorem decodeIndexed_reads {ii : Idx} {bytes : List Byte} {x : Decoded} (h : decodeIndexed ii 1 bytes = .ok x) :
    x.Reads 0 (ii.byte :: bytes) := by
  cases bytes
  case nil => cases h
  case cons op rest =>
    rw [decodeIndexed] at h
    split_ifs at h with hcb hed hdd hfd
    · exact hcb ▸ decodeIdxCb_reads h
    · exact hed ▸ withIgnoredPrefix_reads (fun _ => decodeEd_reads) h
    · cases h
      exact ⟨rfl, ⟨rest, hdd ▸ rfl⟩, rfl⟩
    · cases h
      exact ⟨rfl, ⟨rest, hfd ▸ rfl⟩, rfl⟩
    · exact (idxGrid_encodes ii).reads h rfl

theorem decode_reads {bytes : List Byte} {x : Decoded} (h : decode none bytes = .ok x) : x.Reads 0 bytes := by
  cases bytes
  case nil => cases h
  case cons op rest =>
    rw [decode, decodeBase] at h
    split_ifs at h with hcb hed hdd hfd
    · exact hcb ▸ decodeCb_reads h
    · exact hed ▸ decodeEd_reads h
    · exact hdd ▸ decodeIndexed_reads h
    · exact hfd ▸ decodeIndexed_reads h
    · exact baseGrid_encodes.reads h rfl

/-- Settles O4, by what each state of the decoder reads. -/
theorem encodeOfDecode : Obligations.EncodeOfDecode := by
  intro bytes d h
  obtain ⟨wf, isPrefix, size⟩ := decode_reads h
  rw [Nat.zero_add] at size
  exact ⟨size ▸ List.prefix_iff_eq_take.1 isPrefix, decode_size h, wf⟩

end Sys2Proof
end

section
/-! Decoding what was encoded: the prefix bytes put the decoder in the state of the operation, and there the
instruction's own bytes read it back. -/

namespace Sys2Proof

open Machine

/-- The instruction in the cell of the first byte. -/
noncomputable def cellInstr (g : List (List Form)) (bytes : List Byte) (d : Byte) (nn : Word) : Option Instr :=
  match bytes with
  | [] => none
  | op :: _ => (gridAt g op).bind fun f => f.fill op d 0#8 nn

/-- Every base operation is an instruction's: the one in the cell of its opcode byte (R82). -/
theorem BaseOp.exists_instr (o : BaseOp) : ∃ i : Instr, i.op = .base o := by
  have cell (d nn) (h : (cellInstr baseGrid o.bytes d nn).map Instr.op = some (.base o)) :
      ∃ i : Instr, i.op = .base o := by
    obtain ⟨i, -, hi⟩ := Option.map_eq_some_iff.1 h
    exact ⟨i, hi⟩
  cases o
  case ldPairN x nn | jpCc x nn | callCc x nn => cases x <;> exact cell 0#8 nn rfl
  case stHl nn | ldHl nn | stAAbs nn | ldAAbs nn | jp nn | call nn => exact cell 0#8 nn rfl
  case jrCc x n | ldRegN x n | aluN x n => cases x <;> exact cell n 0#16 rfl
  case djnz n | jr n | ldMemN n | outNA n | inAN n => exact cell n 0#16 rfl
  case ldRegReg x y | aluReg x y => cases x <;> cases y <;> exact cell 0#8 0#16 rfl
  case addHl x | incPair x | decPair x | stA x | ldA x | incReg x | decReg x | ldRegMem x | ldMemReg x | aluMem x |
      retCc x | pop x | push x =>
    cases x <;> exact cell 0#8 0#16 rfl
  case rst y =>
    refine cell 0#8 0#16 ?_
    clear cell
    revert y
    exact eq_of_table_eq (by rfl)
  all_goals exact cell 0#8 0#16 rfl

/-- Every ED operation is an instruction's (R87). -/
theorem EdOp.exists_instr (o : EdOp) : ∃ i : Instr, i.op = .ed o := by
  have cell (nn) (h : (cellInstr edGrid o.bytes 0#8 nn).map Instr.op = some (.ed o)) :
      ∃ i : Instr, i.op = .ed o := by
    obtain ⟨i, -, hi⟩ := Option.map_eq_some_iff.1 h
    exact ⟨i, hi⟩
  cases o
  case neg y => exact ⟨.neg y, rfl⟩
  case retn y => exact ⟨.retn y, rfl⟩
  case nopStar op => exact ⟨.nopStar op, rfl⟩
  case im m y =>
    cases m
    · exact ⟨.im0 y, rfl⟩
    · exact ⟨.im1 y, rfl⟩
    · exact ⟨.im2 y, rfl⟩
  case stPair nn x | ldPair x nn => cases x <;> exact cell nn rfl
  case inReg x | outReg x | sbcHl x | adcHl x => cases x <;> exact cell 0#16 rfl
  case blockLd x rep | blockCp x rep | blockIn x rep | blockOut x rep =>
    cases x <;> cases rep <;> exact cell 0#16 rfl
  all_goals exact cell 0#16 rfl

/-- The decoder at the bytes of an operation, in the state its prefix bytes lead to (R71). -/
noncomputable def Op.readBack (o : Op) (rest : List Byte) : Except DecodeError Decoded :=
  match o with
  | .base o => decodeBase (o.bytes ++ rest)
  | .cb o => decodeCb (o.byte :: rest)
  | .ed o => decodeEd 2 (o.bytes ++ rest)
  | .idx ii o => decodeIndexed ii 1 (o.bytes ++ rest)
  | .idxCb ii d o => decodeIdxCb ii 1 (d :: o.byte :: rest)
  | .ignored ii o => decodeIndexed ii 1 (o.bytes ++ rest)
  | .ignoredEd ii o => withIgnoredPrefix ii (decodeEd 3 (o.bytes ++ rest))
  | .redundant first second => decodeIndexed first 1 (second.byte :: rest)

theorem decode_bytes (o : Op) (rest : List Byte) : decode none (o.bytes ++ rest) = o.readBack rest := by
  cases o
  case base | cb | ed => rfl
  all_goals exact decode_prefix _ _

/-! The ED opcodes with a field that selects nothing, or only part of what it could. -/

theorem decodeEd_neg (y : BitVec 3) (rest : List Byte) :
    decodeEd 2 (opByte 1#2 y 4#3 :: rest) = .ok ⟨.neg y, 2⟩ := by
  revert y
  exact eq_of_table_eq (by rfl)

/-- RETI is the one of RETN's encodings with y = 1 (R87). -/
theorem decodeEd_return (y : BitVec 3) (rest : List Byte) :
    decodeEd 2 (opByte 1#2 y 5#3 :: rest) = .ok ⟨if y = 1#3 then .reti else .retn y, 2⟩ := by
  revert y
  exact eq_of_table_eq (by rfl)

/-- Field y selects the interrupt mode (R80). -/
theorem decodeEd_im (y : BitVec 3) (rest : List Byte) :
    decodeEd 2 (opByte 1#2 y 6#3 :: rest) =
      .ok ⟨match imMode y with | .im0 => .im0 y | .im1 => .im1 y | .im2 => .im2 y, 2⟩ := by
  revert y
  exact eq_of_table_eq (by rfl)

/-- Every unassigned byte is NOP* (R265). -/
theorem decodeEd_nopStar {op : Byte} (rest : List Byte) (h : unassignedEd op = true) :
    decodeEd 2 (op :: rest) = .ok ⟨.nopStar op, 2⟩ := by
  have read : ∀ op, (if unassignedEd op then some (decodeEd 2 (op :: rest)) else none) =
      if unassignedEd op then some (.ok ⟨.nopStar op, 2⟩) else none :=
    eq_of_rows_eq (by rfl)
  simpa only [h, if_true, Option.some.injEq] using read op

theorem ok_of_instr_eq {r : Except DecodeError Decoded} {i j : Instr} {n : Nat} (h : r = .ok ⟨j, n⟩) (e : j = i) :
    ∃ n, r = .ok ⟨i, n⟩ := ⟨n, e ▸ h⟩

/-- One evaluation for each instruction: the cell of its opcode byte holds it. A field of a BIT opcode that selects
nothing takes all its values, and an immediate word is put together from its two bytes. -/
theorem readBack_of_ne_ignoredEd (i : Instr) (rest : List Byte) (h : i.wf = true)
    (hi : ∀ ii o, i ≠ .ignoredEd ii o) : ∃ n, i.op.readBack rest = .ok ⟨i, n⟩ := by
  cases i
  case ignoredEd ii o => exact absurd rfl (hi ii o)
  case redundantPrefix first second => cases second <;> exact ⟨2, rfl⟩
  case neg y => exact ⟨2, decodeEd_neg y rest⟩
  case retn y => exact ok_of_instr_eq (decodeEd_return y rest) (if_neg (bne_iff_ne.1 h))
  case im0 y | im1 y | im2 y =>
    have mode := of_decide_eq_true h
    exact ok_of_instr_eq (decodeEd_im y rest) (by rw [mode])
  case nopStar op => exact ⟨2, decodeEd_nopStar rest h⟩
  case bit0AtIdx ii d z | bit1AtIdx ii d z | bit2AtIdx ii d z | bit3AtIdx ii d z | bit4AtIdx ii d z |
      bit5AtIdx ii d z | bit6AtIdx ii d z | bit7AtIdx ii d z =>
    refine ⟨4, ?_⟩
    clear h hi
    revert z
    exact eq_of_table_eq (by rfl)
  all_goals exact ok_of_instr_eq rfl (by simp only [pack_hiByte_loByte])

/-- An ED instruction reads back behind an index prefix as without one (R89). -/
theorem readBack_instr (i : Instr) (rest : List Byte) (h : i.wf = true) : ∃ n, i.op.readBack rest = .ok ⟨i, n⟩ := by
  by_cases hi : ∃ ii o, i = .ignoredEd ii o
  · obtain ⟨ii, o, rfl⟩ := hi
    obtain ⟨j, hj⟩ := o.exists_instr
    have wf : j.wf = true := by rw [Instr.wf, hj]; exact h
    obtain ⟨n, read⟩ := readBack_of_ne_ignoredEd j rest wf (by rintro ii o rfl; cases hj)
    have readEd : decodeEd 2 (o.bytes ++ rest) = .ok ⟨j, n⟩ := by rwa [hj] at read
    refine ⟨n + 1, ?_⟩
    change withIgnoredPrefix ii (decodeEd (2 + 1) (o.bytes ++ rest)) = _
    rw [decodeEd_succ, readEd]
    simp only [Except.map, Decoded.grow, withIgnoredPrefix, hj]
  · exact readBack_of_ne_ignoredEd i rest h fun ii o e => hi ⟨ii, o, e⟩

/-- Settles O3: the instruction reads back in the state its prefix bytes lead to, and its size is the length of what it
encodes to. -/
theorem decodeOfEncode : Obligations.DecodeOfEncode := by
  intro i rest h
  obtain ⟨n, read⟩ := readBack_instr i rest h
  rw [← decode_bytes] at read
  have size : n = (encode i).length := (decode_reads read).size.trans (Nat.zero_add _)
  exact size ▸ read

/-- No instruction is read from no byte, as its encoding would not decode (R70). -/
theorem decode_size_pos {bytes : List Byte} {d : Decoded} (h : decode none bytes = .ok d) : 0 < d.size := by
  obtain ⟨he, -, wf⟩ := encodeOfDecode bytes d h
  by_contra empty
  rw [Nat.eq_zero_of_not_pos empty, List.take_zero] at he
  have again := decodeOfEncode d.instr [] wf
  rw [he] at again
  cases again

/-- Nor is one read from an index prefix alone (R36). -/
theorem decode_pending_size_pos {ii : Idx} {bytes : List Byte} {d : Decoded} (h : decode (some ii) bytes = .ok d) :
    0 < d.size := by
  obtain ⟨he, -, wf⟩ := encodeOfDecode _ _ ((pendingPrefixDecodesAlike ii bytes d.instr d.size).1 h)
  by_contra empty
  rw [Nat.eq_zero_of_not_pos empty] at he
  have again := decodeOfEncode d.instr [] wf
  rw [he] at again
  cases ii <;> cases again

theorem decode_wf {pending : Option Idx} {bytes : List Byte} {d : Decoded} (h : decode pending bytes = .ok d) :
    d.instr.wf = true := by
  cases pending
  case none => exact (decode_reads h).wf
  case some ii => exact (decode_reads ((pendingPrefixDecodesAlike ii bytes d.instr d.size).1 h)).wf

/-- Settles O5: five bytes decode, the instruction is among them, and it has at least one of them. -/
theorem everyFiveBytesDecode : Obligations.EveryFiveBytesDecode := by
  intro pending a b c d e
  obtain ⟨x, hx⟩ := decode_five_ok pending a b c d e
  refine ⟨x, hx, ?_, decode_size hx, decode_wf hx⟩
  cases pending
  case none => exact decode_size_pos hx
  case some ii => exact decode_pending_size_pos hx

end Sys2Proof
end

section
/-! Words of the spec, register loads, jumps, returns from interrupts, CPU control and prefixes. -/

namespace Sys2Proof

/-- Settles O7, word by word. -/
theorem specWordsDecode : Obligations.SpecWordsDecode :=
  ⟨rfl, rfl, rfl, rfl, rfl, rfl, rfl, rfl, rfl, rfl⟩

end Sys2Proof

namespace Sys2Proof.Machine

/-- Settles O18: both operations are the same return, two bytes popped. -/
theorem interruptReturns : Obligations.InterruptReturns := by
  intro i y s h
  refine ⟨_, rfl, ?_⟩
  have run : exec i s = .next (returnFromInterrupt s) := by
    obtain h | h := h
    · exact exec_of_op h s
    · exact exec_of_op h s
  rw [run, returnFromInterrupt_eq, word_succ_succ, List.append_assoc, List.singleton_append]

/-- Settles O27: each load is one register write. -/
theorem registerLoads : Obligations.RegisterLoads :=
  ⟨fun _ _ _ s h => exec_of_op h s, fun _ _ _ s h => exec_of_op h s, fun _ _ _ _ s h => exec_of_op h s,
    fun _ _ _ _ s h => exec_of_op h s⟩

/-- What each condition tests of F (R79). -/
theorem condHolds_eq_mask (f : Byte) :
    condHolds .nz f = (f &&& 0x40#8 == 0#8) ∧ condHolds .z f = (f &&& 0x40#8 != 0#8) ∧
    condHolds .nc f = (f &&& 0x01#8 == 0#8) ∧ condHolds .c f = (f &&& 0x01#8 != 0#8) ∧
    condHolds .po f = (f &&& 0x04#8 == 0#8) ∧ condHolds .pe f = (f &&& 0x04#8 != 0#8) ∧
    condHolds .p f = (f &&& 0x80#8 == 0#8) ∧ condHolds .m f = (f &&& 0x80#8 != 0#8) := by
  revert f
  decide

/-- A count of 1 is the last (R236). -/
theorem pred_bne_zero (b : Byte) : (b - 1#8 != 0#8) = !decide (b = 1#8) := by
  revert b
  decide

theorem doDjnz_eq (e : Byte) (s : State) :
    doDjnz e s =
      if s.main.b = 1#8 then { s with main := { s.main with b := 0#8 }, cycles := 8 }
      else
        { s with
          main := { s.main with b := s.main.b - 1#8 }, pc := s.pc + e.signExtend 16,
          memptr := s.pc + e.signExtend 16, cycles := 13 } := by
  simp only [doDjnz, State.setB_main, pred_bne_zero]
  by_cases h : s.main.b = 1#8
  · simp only [h, decide_true, Bool.not_true, Bool.false_eq_true, if_false, if_true]
    rfl
  · simp only [h, decide_false, Bool.not_false, if_true, if_false]
    rfl

/-- Settles O54: a jump writes PC, and where its rule says so MEMPTR; a conditional one is taken or not. -/
theorem jumps : Obligations.Jumps := by
  refine ⟨fun f => ?_, fun i nn s h => exec_of_op h s, fun i cc nn s h => ?_, fun i e s h => exec_of_op h s,
    fun i cc e s h => exec_of_op h s, fun i s h => exec_of_op h s, fun i ii s h => exec_of_op h s,
    fun i e s h => ?_⟩
  · obtain ⟨hnz, hz, hnc, hc, hpo, hpe, hp, hm⟩ := condHolds_eq_mask f
    exact ⟨hnz, hz, hnc, hc, hpo, hpe, hp, hm, rfl, rfl, rfl, rfl⟩
  · rw [exec_of_op h, runOp, runBase, doJpCc]
    split_ifs <;> rfl
  · rw [exec_of_op h, runOp, runBase, doDjnz_eq]

/-- Settles O59: each instruction is one update of the control state. -/
theorem cpuControl : Obligations.CpuControl :=
  ⟨fun _ s h => exec_of_op h s, fun _ _ s h => exec_of_op h s, fun _ s h => exec_of_op h s,
    fun _ s h => exec_of_op h s, fun _ s h => exec_of_op h s, fun _ _ _ s h => exec_of_op h s⟩

/-- Settles O60: every operation behind an ignored prefix is an instruction's, and both run it. -/
theorem prefixedForms : Obligations.PrefixedForms := by
  refine ⟨fun i ii o s h => ?_, fun i ii o s h => ?_, fun i first second s h => exec_of_op h s⟩
  · obtain ⟨j, hj⟩ := o.exists_instr
    exact ⟨j, _, hj, exec_of_op hj s, exec_of_op h s⟩
  · obtain ⟨j, hj⟩ := o.exists_instr
    exact ⟨j, _, hj, exec_of_op hj s, exec_of_op h s⟩

end Sys2Proof.Machine
end

section
/-! The loads between A and the registers I and R. -/

namespace Sys2Proof.Machine

/-- F after a load of A from I or R: S, Z, Y and X from the byte, IFF2 in PV, and the old carry (R108, R109). -/
theorem flagsAre_iffFlags (v f : Byte) (iff2 : Bool) :
    FlagsAre (iffFlags v f iff2) (v.getLsbD 7) (v == 0#8) (v.getLsbD 5) false (v.getLsbD 3) iff2 false (flagC f) :=
  flagsAre_szyx v false iff2 false (flagC f)

/-- Settles O30: I and R are copied whole, and only the loads of A write F. -/
theorem interruptRegisterLoads : Obligations.InterruptRegisterLoads :=
  ⟨fun _ s h => ⟨iffFlags s.i s.main.f s.iff2, flagsAre_iffFlags s.i s.main.f s.iff2, exec_of_op h s⟩,
    fun _ s h => ⟨iffFlags s.r s.main.f s.iff2, flagsAre_iffFlags s.r s.main.f s.iff2, exec_of_op h s⟩,
    fun _ s h => exec_of_op h s, fun _ s h => exec_of_op h s⟩

end Sys2Proof.Machine
end

section
/-! The exchanges: of the two banks, of DE with HL, and of a register with the top of the stack. -/

namespace Sys2Proof.Machine

/-- Settles O34: each exchange is one update of the banks. -/
theorem registerExchanges : Obligations.RegisterExchanges :=
  ⟨fun _ s h => exec_of_op h s, fun _ s h => exec_of_op h s, fun _ s h => exec_of_op h s⟩

/-- Two bytes stored are stored whichever is named first. -/
theorem Stored2.swap {s t : State} {a b : Word} {v w : Byte} (h : Stored2 s t a v b w) : Stored2 s t b w a v := by
  obtain ⟨ha, hb, other⟩ := h
  exact ⟨hb, ha, fun x xb xa => other x xa xb⟩

/-- The top of the stack replaced by w: both bytes are read and both are written before the word they held is handed on,
and SP stays (R134). -/
theorem State.exchangeTop_eq (s : State) (w : Word) :
    ∃ m, Stored2 s { s with mem := m } s.sp (loByte w) (s.sp + 1#16) (hiByte w) ∧
      ∀ k, s.exchangeTop w k = k (pack (s.peek (s.sp + 1#16)) (s.peek s.sp))
        { s with
          mem := m,
          calls := s.calls ++
            [.readMem s.sp (s.peek s.sp), .readMem (s.sp + 1#16) (s.peek (s.sp + 1#16)),
             .writeMem (s.sp + 1#16) (hiByte w), .writeMem s.sp (loByte w)] } := by
  refine ⟨Memory.write (Memory.write s.mem (s.sp + 1#16).toNat (hiByte w)) s.sp.toNat (loByte w), ?_, fun k => ?_⟩
  · exact (stored2_of_write (word_ne_succ s.sp).symm rfl).swap
  · simp [State.exchangeTop, State.readMem_eq, State.writeMem, State.poke, State.log, State.peek]

/-- Settles O35: both forms put their register on top of the stack and take the word that was there. -/
theorem stackTopExchanges : Obligations.StackTopExchanges := by
  refine ⟨fun i s h => ?_, fun i ii s h => ?_⟩
  · obtain ⟨m, stored, eq⟩ := s.exchangeTop_eq s.hl
    have run := exec_of_op h s
    rw [runOp, runBase, doExSpHl, eq] at run
    rw [State.hl, loByte_pack, hiByte_pack] at stored run
    exact ⟨_, _, rfl, run, stored, rfl⟩
  · obtain ⟨m, stored, eq⟩ := s.exchangeTop_eq (s.idx ii)
    have run := exec_of_op h s
    rw [runOp, runIdx, doIdxExSp, eq] at run
    cases ii <;> exact ⟨_, _, rfl, run, stored, rfl⟩

end Sys2Proof.Machine
end

section
/-! The block transfers and searches: one iteration's own updates, then its end, which repeats or does not. -/

namespace Sys2Proof.Machine

/-- The end of an iteration (R140): a repeating one rewinds PC and leaves MEMPTR at PC + 1, and one that does not repeat
leaves m there. -/
def State.endBlock (s : State) (again : Bool) (m : Word) : State :=
  if again then (s.setMemptr (s.rewound + 1#16)).repeatBlock fun f => f else (s.setMemptr m).took 16

/-- Only Y and X are taken from PC (R158). -/
theorem flagsAre_pcYx {f : Byte} {s z y h x pv n c : Bool} (pc : Word) (are : FlagsAre f s z y h x pv n c) :
    FlagsAre (pcYx pc f) s z (pc.getLsbD 13) h (pc.getLsbD 11) pv n c := by
  obtain ⟨rfl, rfl, -, rfl, -, rfl, rfl, rfl⟩ := are
  exact flagsAre_packF _ _ _ _ _ _ _ _

/-- What the end of an iteration makes of F, PC, MEMPTR and the cycle count (R140, R158). -/
theorem State.endBlock_ends {s : State} {sf z y hf x pv n c : Bool} (again : Bool) (m : Word)
    (h : FlagsAre s.main.f sf z y hf x pv n c) :
    ∃ f, FlagsAre f sf z
        (if again && decide (s.params.blockRepeatFlags = .pcBased) then (s.pc - 2#16).getLsbD 13 else y) hf
        (if again && decide (s.params.blockRepeatFlags = .pcBased) then (s.pc - 2#16).getLsbD 11 else x) pv n c ∧
      s.endBlock again m = { s with
        main := { s.main with f := f }, pc := if again then s.pc - 2#16 else s.pc,
        memptr := if again then s.pc - 2#16 + 1#16 else m, cycles := if again then 21 else 16 } := by
  cases again
  case false => exact ⟨s.main.f, h, rfl⟩
  case true =>
    simp only [State.endBlock, State.repeatBlock, State.setMemptr_params, if_true, Bool.true_and]
    cases s.params.blockRepeatFlags
    case classic => exact ⟨s.main.f, h, rfl⟩
    case pcBased => exact ⟨pcYx (s.pc - 2#16) s.main.f, flagsAre_pcYx (s.pc - 2#16) h, rfl⟩

/-- Whether BC is not zero after its decrement (R141, R145). -/
def State.moreToDo (s : State) : Bool := (s.setBc (s.bc - 1#16)).bc != 0#16

theorem State.moreToDo_eq (s : State) : s.moreToDo = decide (s.bc - 1#16 ≠ 0#16) := by
  rw [State.moreToDo, State.bc, State.setBc, pack_hiByte_loByte, bne, beq_eq_decide, decide_not]

/-- A block transfer up to its repeat test (R141, R142). -/
def State.afterBlockLd (s : State) (d : Dir) : State :=
  { s with
    main := { s.main with
      f := blockLdFlags (s.peek s.hl) s.main.a s.main.f s.moreToDo,
      b := hiByte (s.bc - 1#16), c := loByte (s.bc - 1#16),
      d := hiByte (stepWord d s.de), e := loByte (stepWord d s.de),
      h := hiByte (stepWord d s.hl), l := loByte (stepWord d s.hl) },
    mem := Memory.write s.mem s.de.toNat (s.peek s.hl),
    calls := s.calls ++ [.readMem s.hl (s.peek s.hl), .writeMem s.de (s.peek s.hl)] }

theorem doBlockLd_eq (d : Dir) (rep : Bool) (s : State) :
    doBlockLd d rep s = (s.afterBlockLd d).endBlock (rep && s.moreToDo) s.memptr := by
  rw [State.afterBlockLd, List.append_cons]
  rfl

/-- A block search up to its repeat test (R145, R146). -/
def State.afterBlockCp (s : State) (d : Dir) : State :=
  { s with
    main := { s.main with
      f := blockCpFlags (s.peek s.hl) s.main.a s.main.f s.moreToDo,
      b := hiByte (s.bc - 1#16), c := loByte (s.bc - 1#16),
      h := hiByte (stepWord d s.hl), l := loByte (stepWord d s.hl) },
    calls := s.calls ++ [.readMem s.hl (s.peek s.hl)] }

/-- A match is a difference of zero (R146). -/
theorem bne_eq_decide_sub_ne_zero (a v : Byte) : (a != v) = decide (a - v ≠ 0#8) := by
  rw [bne, beq_eq_decide, ← decide_not]
  exact decide_eq_decide.2 (not_congr sub_eq_zero.symm)

theorem doBlockCp_eq (d : Dir) (rep : Bool) (s : State) :
    doBlockCp d rep s =
      (s.afterBlockCp d).endBlock (rep && s.moreToDo && s.main.a != s.peek s.hl) (stepWord d s.memptr) := rfl

/-- The flags of a search: H is the borrow into bit 4, and Y and X come from the difference less H (R145). -/
theorem flagsAre_blockCpFlags (v a f : Byte) (more : Bool) :
    ∃ hf n, hf = decide (a.toNat % 16 < v.toNat % 16) ∧ n = a - v - (if hf then 1#8 else 0#8) ∧
      FlagsAre (blockCpFlags v a f more) ((a - v).getLsbD 7) (a - v == 0#8) (n.getLsbD 1) hf (n.getLsbD 3) more true
        (flagC f) := by
  refine ⟨_, _, rfl, rfl, ?_⟩
  have borrow (hf : Bool) : (BitVec.ofBool hf).setWidth 8 = if hf then 1#8 else 0#8 := by cases hf <;> rfl
  rw [← borrow]
  exact flagsAre_packF _ _ _ _ _ _ _ _

/-- Settles O36: the iteration's own updates, then its end. -/
theorem blockTransfers : Obligations.BlockTransfers := by
  intro i d rep s h
  obtain ⟨f, flags, ends⟩ := State.endBlock_ends (s := s.afterBlockLd d) (rep && s.moreToDo) s.memptr
    (flagsAre_packF _ _ _ _ _ _ _ _)
  simp only [← stepWord_eq]
  exact ⟨_, _, _, _, _, rfl, rfl, s.moreToDo_eq, rfl,
    (exec_of_op h s).trans (congrArg _ ((doBlockLd_eq d rep s).trans ends)), stored_of_write rfl, flags,
    rfl, pack_hiByte_loByte _, pack_hiByte_loByte _, pack_hiByte_loByte _, rfl⟩

/-- Settles O37: the iteration's own updates, then its end. -/
theorem blockSearches : Obligations.BlockSearches := by
  intro i d rep s h
  obtain ⟨hf, n, eqH, eqN, are⟩ := flagsAre_blockCpFlags (s.peek s.hl) s.main.a s.main.f s.moreToDo
  obtain ⟨f, flags, ends⟩ := State.endBlock_ends (s := s.afterBlockCp d)
    (rep && s.moreToDo && s.main.a != s.peek s.hl) (stepWord d s.memptr) are
  simp only [← stepWord_eq]
  exact ⟨_, _, _, _, hf, n, _, _, rfl, rfl, rfl, eqH, eqN, s.moreToDo_eq,
    congrArg _ (bne_eq_decide_sub_ne_zero _ _),
    (exec_of_op h s).trans (congrArg _ ((doBlockCp_eq d rep s).trans ends)), flags,
    rfl, pack_hiByte_loByte _, rfl, pack_hiByte_loByte _, rfl⟩

end Sys2Proof.Machine
end

section
/-! Signed overflow, read off the signs of a wrapped sum or difference, for every width. -/

namespace Sys2Proof.Machine

theorem getLsbD_last_eq_decide {n : Nat} (x : BitVec (n + 1)) : x.getLsbD n = decide (2 ^ n ≤ x.toNat) := by
  have h := x.msb_eq_decide
  rwa [BitVec.msb_eq_getLsbD_last] at h

theorem toNat_lt_two_mul {n : Nat} (x : BitVec (n + 1)) : x.toNat < 2 * 2 ^ n := pow_succ' 2 n ▸ x.isLt

theorem toInt_eq_toNat_sub {n : Nat} (x : BitVec (n + 1)) :
    x.toInt = (x.toNat : Int) - (if 2 ^ n ≤ x.toNat then 2 * 2 ^ n else 0 : Nat) := by
  rw [BitVec.toInt_eq_toNat_cond, pow_succ']
  split_ifs <;> omega

/-- A sum of two words and a carry is the wrapped word, or that and one turn more. -/
theorem sum_eq_wrapped {n : Nat} {a v w : BitVec (n + 1)} {c : Bool}
    (hw : w = BitVec.ofNat (n + 1) (a.toNat + v.toNat + c.toNat)) :
    a.toNat + v.toNat + c.toNat = w.toNat ∨ a.toNat + v.toNat + c.toNat = w.toNat + 2 * 2 ^ n := by
  have ha := a.isLt
  have hv := v.isLt
  have hc := c.toNat_le
  rw [hw, BitVec.toNat_ofNat, ← pow_succ']
  obtain lt | ge := Nat.lt_or_ge (a.toNat + v.toNat + c.toNat) (2 ^ (n + 1))
  · exact .inl (Nat.mod_eq_of_lt lt).symm
  · rw [Nat.mod_eq_sub_mod ge, Nat.mod_eq_of_lt (by omega)]
    omega

/-- A sum overflows when the operands have one sign and the wrapped sum the other. -/
theorem addOverflow_eq {n : Nat} {a v w : BitVec (n + 1)} {c : Bool}
    (hw : w = BitVec.ofNat (n + 1) (a.toNat + v.toNat + c.toNat)) :
    (a.getLsbD n == v.getLsbD n && w.getLsbD n != a.getLsbD n) =
      decide (a.toInt + v.toInt + (c.toNat : Int) < -(2 ^ n : Nat) ∨
        (2 ^ n : Nat) - 1 < a.toInt + v.toInt + (c.toNat : Int)) := by
  have sum := sum_eq_wrapped hw
  have ha := toNat_lt_two_mul a
  have hv := toNat_lt_two_mul v
  have hw := toNat_lt_two_mul w
  have hc := c.toNat_le
  rw [Bool.eq_iff_iff]
  simp only [toInt_eq_toNat_sub, getLsbD_last_eq_decide, Bool.and_eq_true, beq_iff_eq, bne_iff_ne, decide_eq_decide,
    decide_eq_true_iff, ne_eq]
  split_ifs <;> omega

/-- A difference w overflows when the operands differ in sign and w does not have the sign of the first. -/
theorem subOverflow_eq {n : Nat} {a v w : BitVec (n + 1)} {c : Bool}
    (ha : a = BitVec.ofNat (n + 1) (w.toNat + v.toNat + c.toNat)) :
    (a.getLsbD n != v.getLsbD n && w.getLsbD n != a.getLsbD n) =
      decide (a.toInt - v.toInt - (c.toNat : Int) < -(2 ^ n : Nat) ∨
        (2 ^ n : Nat) - 1 < a.toInt - v.toInt - (c.toNat : Int)) := by
  have sum := sum_eq_wrapped ha
  have ha := toNat_lt_two_mul a
  have hv := toNat_lt_two_mul v
  have hw := toNat_lt_two_mul w
  have hc := c.toNat_le
  rw [Bool.eq_iff_iff]
  simp only [toInt_eq_toNat_sub, getLsbD_last_eq_decide, Bool.and_eq_true, bne_iff_ne, decide_eq_decide,
    decide_eq_true_iff, ne_eq]
  split_ifs <;> omega

end Sys2Proof.Machine
end

section
/-! 8-bit arithmetic and logic: what each operation computes, and the instructions that apply it. -/

namespace Sys2Proof.Machine

/-- Settles O40: every form applies `alu8` to A and its source. -/
theorem aluSources : Obligations.AluSources :=
  ⟨fun _ _ _ s h => ⟨_, rfl, exec_of_op h s⟩, fun _ _ _ s h => ⟨_, rfl, exec_of_op h s⟩,
    fun _ _ s h => ⟨_, rfl, exec_of_op h s⟩, fun _ _ _ _ s h => ⟨_, rfl, exec_of_op h s⟩,
    fun _ _ _ _ s h => ⟨_, _, rfl, rfl, exec_of_op h s⟩⟩

theorem ofNat_carry (c : Bool) : BitVec.ofNat 8 c.toNat = if c then 1#8 else 0#8 := by cases c <;> rfl

theorem add8_fst (a v : Byte) (c : Bool) : (add8 a v c).1 = a + v + (if c then 1#8 else 0#8) := by
  simp [add8, BitVec.ofNat_add, ofNat_carry]

theorem sub8_fst (a v : Byte) (c : Bool) : (sub8 a v c).1 = a - v - (if c then 1#8 else 0#8) := by
  cases c <;> rfl

/-- The difference, the operand and the borrow add up to the first operand again. -/
theorem ofNat_sub8_add (a v : Byte) (c : Bool) :
    BitVec.ofNat 8 ((sub8 a v c).1.toNat + v.toNat + c.toNat) = a := by
  rw [BitVec.ofNat_add, BitVec.ofNat_add, ofNat_carry, BitVec.ofNat_toNat, BitVec.ofNat_toNat, BitVec.setWidth_eq,
    BitVec.setWidth_eq, sub8_fst]
  ring

theorem flagsAre_add8 (a v : Byte) (c : Bool) :
    FlagsAre (add8 a v c).2 ((add8 a v c).1.getLsbD 7) ((add8 a v c).1 == 0#8) ((add8 a v c).1.getLsbD 5)
      (decide (15 < a.toNat % 16 + v.toNat % 16 + c.toNat)) ((add8 a v c).1.getLsbD 3)
      (decide (a.toInt + v.toInt + (c.toNat : Int) < -128 ∨ 127 < a.toInt + v.toInt + (c.toNat : Int))) false
      (decide (255 < a.toNat + v.toNat + c.toNat)) := by
  have overflow := addOverflow_eq (n := 7) (a := a) (v := v) (c := c) rfl
  exact overflow ▸ flagsAre_szyx _ _ _ _ _

theorem flagsAre_sub8 (a v : Byte) (c : Bool) :
    FlagsAre (sub8 a v c).2 ((sub8 a v c).1.getLsbD 7) ((sub8 a v c).1 == 0#8) ((sub8 a v c).1.getLsbD 5)
      (decide (a.toNat % 16 < v.toNat % 16 + c.toNat)) ((sub8 a v c).1.getLsbD 3)
      (decide (a.toInt - v.toInt - (c.toNat : Int) < -128 ∨ 127 < a.toInt - v.toInt - (c.toNat : Int))) true
      (decide (a.toNat < v.toNat + c.toNat)) := by
  have overflow := subOverflow_eq (n := 7) (ofNat_sub8_add a v c).symm
  exact overflow ▸ flagsAre_szyx _ _ _ _ _

/-- CP is SUB but for Y and X, which come from the operand (R168). -/
theorem flagsAre_cpFlags {a v : Byte} {s z y h x pv n c : Bool} (are : FlagsAre (sub8 a v false).2 s z y h x pv n c) :
    FlagsAre (cpFlags a v) s z (v.getLsbD 5) h (v.getLsbD 3) pv n c := by
  obtain ⟨rfl, rfl, -, rfl, -, rfl, rfl, rfl⟩ := are
  exact flagsAre_packF _ _ _ _ _ _ _ _

/-- Settles O41: ADC is ADD, and SBC is SUB, with the carry flag in, and CP is SUB with A kept. -/
theorem aluResults : Obligations.AluResults := by
  refine ⟨fun k a v f c h => ?_, fun k a v f c h => ?_, fun a v f => ⟨rfl, ?_⟩, fun a v f => ⟨rfl, rfl, rfl, ?_⟩⟩
  · obtain ⟨rfl, rfl⟩ | ⟨rfl, rfl⟩ := h <;> exact ⟨_, add8_fst .., rfl, flagsAre_add8 ..⟩
  · obtain ⟨rfl, rfl⟩ | ⟨rfl, rfl⟩ := h <;> exact ⟨_, sub8_fst .., rfl, flagsAre_sub8 ..⟩
  · have are := flagsAre_cpFlags (flagsAre_sub8 a v false)
    have zero : (a - v == 0#8) = (a == v) := by rw [beq_eq_decide, beq_eq_decide]; exact decide_eq_decide.2 sub_eq_zero
    simpa [sub8_fst, zero, alu8] using are
  · rintro k (rfl | rfl | rfl) <;> exact ⟨_, rfl, flagsAre_szyx ..⟩

theorem flagsAre_inc8 (v f : Byte) :
    FlagsAre (inc8 v f).2 ((v + 1#8).getLsbD 7) (v + 1#8 == 0#8) ((v + 1#8).getLsbD 5)
      (decide (v.toNat % 16 = 15)) ((v + 1#8).getLsbD 3) (v == 0x7F#8) false (flagC f) :=
  lo4_beq_fifteen v ▸ flagsAre_szyx _ _ _ _ _

theorem flagsAre_dec8 (v f : Byte) :
    FlagsAre (dec8 v f).2 ((v - 1#8).getLsbD 7) (v - 1#8 == 0#8) ((v - 1#8).getLsbD 5)
      (decide (v.toNat % 16 = 0)) ((v - 1#8).getLsbD 3) (v == 0x80#8) true (flagC f) :=
  lo4_beq_zero v ▸ flagsAre_szyx _ _ _ _ _

/-- An index half and F written: INC and DEC of a half (R172, R176). -/
theorem State.setHalf_setF_took (s : State) (ii : Idx) (x : Half) (v f : Byte) (n : Nat) :
    ((s.setHalf ii x v).setF f).took n =
      { s.setHalf ii x v with main := { s.main with f := f }, cycles := n } := by
  rw [State.setF, setHalf_main, took]

/-- Settles O42: each form writes its register or half, and F, with the two answers of `inc8` or `dec8`. -/
theorem registerCounting : Obligations.RegisterCounting :=
  ⟨fun v f => ⟨rfl, flagsAre_inc8 v f, rfl, flagsAre_dec8 v f⟩,
    fun _ _ s h => exec_of_op h s, fun _ _ s h => exec_of_op h s,
    fun _ _ _ s h => (exec_of_op h s).trans (congrArg _ (s.setHalf_setF_took ..)),
    fun _ _ _ s h => (exec_of_op h s).trans (congrArg _ (s.setHalf_setF_took ..))⟩

/-- The two corrections of DAA have no bit in common, so that they add up (R177). -/
theorem daaCorrection_eq_add (a f : Byte) :
    daaCorrection a f = (if flagH f || decide (9 < a.toNat % 16) then 0x06#8 else 0x00#8) +
      (if flagC f || decide (0x99 < a.toNat) then 0x60#8 else 0x00#8) := by
  rw [daaCorrection, loNibble]
  split_ifs <;> rfl

/-- Y or X of SCF and CCF: the bit of A, and under the q model that of F too where q is false (R182). -/
theorem scfBit_eq (yx : ScfCcfYx) (q aBit fBit : Bool) :
    scfBit yx q aBit fBit = (aBit || (decide (yx = .qModel) && fBit && !q)) := by
  cases yx
  case aOnly => exact (Bool.or_false aBit).symm
  case qModel => rfl

/-- H, PV and C of NEG, a subtraction from 0, in terms of the byte alone (R179). -/
theorem negate_flags (a : Byte) :
    decide ((0#8).toNat % 16 < a.toNat % 16 + false.toNat) = decide (a.toNat % 16 ≠ 0) ∧
    decide ((0#8).toInt - a.toInt - (false.toNat : Int) < -128 ∨ 127 < (0#8).toInt - a.toInt - (false.toNat : Int)) =
      (a == 0x80#8) ∧
    decide ((0#8).toNat < a.toNat + false.toNat) = (a != 0#8) := by
  revert a
  decide

/-- Settles O44: A and F take what `daa8`, `cplFlags`, `sub8`, `scfFlags` and `ccfFlags` answer. -/
theorem accumulatorAndCarry : Obligations.AccumulatorAndCarry := by
  refine ⟨fun i s h => ?_, fun i s h => ?_, fun i y s h => ?_, fun i s h => ?_, fun i s h => ?_⟩
  · exact ⟨_, _, _, _, _, rfl, rfl, daaCorrection_eq_add .., rfl, flagsAre_szyx .., exec_of_op h s⟩
  · exact ⟨_, _, rfl, flagsAre_packF .., exec_of_op h s⟩
  · obtain ⟨half, overflow, carry⟩ := negate_flags s.main.a
    have are := flagsAre_sub8 0#8 s.main.a false
    rw [half, overflow, carry] at are
    exact ⟨_, _, (sub8_fst ..).trans (BitVec.sub_zero _), are, exec_of_op h s⟩
  · simp only [← scfBit_eq]
    exact ⟨_, flagsAre_packF .., exec_of_op h s⟩
  · simp only [← scfBit_eq]
    exact ⟨_, flagsAre_packF .., exec_of_op h s⟩

end Sys2Proof.Machine
end

section
/-! DAA after ADD and SUB: the correction in terms of the two operands, and what it makes of two-digit decimal numbers. -/

namespace Sys2Proof.Machine

theorem daa8_fst (a f : Byte) :
    (daa8 a f).1 = if flagN f then a - daaCorrection a f else a + daaCorrection a f := rfl

theorem flagC_daa8 (a f : Byte) : flagC (daa8 a f).2 = (flagC f || decide (0x99 < a.toNat)) := flagC_packF ..

/-- After ADD, DAA corrects where the sum of the low digits passes 9 and where the whole sum passes 0x99 (R177). -/
theorem daa8_add8 (p q : Byte) :
    (daa8 (add8 p q false).1 (add8 p q false).2).1 =
      p + q + ((if 9 < p.toNat % 16 + q.toNat % 16 then 0x06#8 else 0x00#8) +
        (if 0x99 < p.toNat + q.toNat then 0x60#8 else 0x00#8)) ∧
    flagC (daa8 (add8 p q false).1 (add8 p q false).2).2 = decide (0x99 < p.toNat + q.toNat) := by
  obtain ⟨-, -, -, half, -, -, sub, carry⟩ := flagsAre_add8 p q false
  have sum : (add8 p q false).1 = p + q := (add8_fst ..).trans (BitVec.add_zero _)
  have low : (decide (15 < p.toNat % 16 + q.toNat % 16 + false.toNat) || decide (9 < (p + q).toNat % 16)) =
      decide (9 < p.toNat % 16 + q.toNat % 16) := by
    rw [← Bool.decide_or, BitVec.toNat_add, Bool.toNat_false]
    exact decide_eq_decide.2 (by omega)
  have high : (decide (255 < p.toNat + q.toNat + false.toNat) || decide (0x99 < (p + q).toNat)) =
      decide (0x99 < p.toNat + q.toNat) := by
    rw [← Bool.decide_or, BitVec.toNat_add, Bool.toNat_false]
    exact decide_eq_decide.2 (by omega)
  rw [flagC_daa8, daa8_fst, daaCorrection_eq_add, sub, half, carry, sum, low, high]
  simp

/-- After SUB of a byte from a two-digit decimal number with no digit above 9, DAA corrects where there was a borrow. -/
theorem daa8_sub8 {p : Byte} (q : Byte) (digit : p.toNat % 16 ≤ 9) (le : p.toNat ≤ 0x99) :
    (daa8 (sub8 p q false).1 (sub8 p q false).2).1 =
      p - q - ((if p.toNat % 16 < q.toNat % 16 then 0x06#8 else 0x00#8) +
        (if p.toNat < q.toNat then 0x60#8 else 0x00#8)) ∧
    flagC (daa8 (sub8 p q false).1 (sub8 p q false).2).2 = decide (p.toNat < q.toNat) := by
  obtain ⟨-, -, -, half, -, -, sub, carry⟩ := flagsAre_sub8 p q false
  have difference : (sub8 p q false).1 = p - q := (sub8_fst ..).trans (BitVec.sub_zero _)
  have low : (decide (p.toNat % 16 < q.toNat % 16 + false.toNat) || decide (9 < (p - q).toNat % 16)) =
      decide (p.toNat % 16 < q.toNat % 16) := by
    rw [← Bool.decide_or, BitVec.toNat_sub, Bool.toNat_false]
    exact decide_eq_decide.2 (by omega)
  have high : (decide (p.toNat < q.toNat + false.toNat) || decide (0x99 < (p - q).toNat)) =
      decide (p.toNat < q.toNat) := by
    rw [← Bool.decide_or, BitVec.toNat_sub, Bool.toNat_false]
    exact decide_eq_decide.2 (by omega)
  rw [flagC_daa8, daa8_fst, daaCorrection_eq_add, sub, half, carry, difference, low, high]
  simp

/-- A number below 100 as two decimal digits, the tens in the high nibble. -/
def bcd (n : Nat) : Byte := BitVec.ofNat 8 (n / 10 * 16 + n % 10)

/-- Tens and units, as numbers, and where they stand in the byte. -/
theorem bcd_digits {n : Nat} (h : n < 100) :
    ∃ t u, t ≤ 9 ∧ u ≤ 9 ∧ n = 10 * t + u ∧ (bcd n).toNat = 16 * t + u ∧ (bcd n).toNat % 16 = u := by
  refine ⟨n / 10, n % 10, by omega, by omega, by omega, ?_⟩
  rw [bcd, BitVec.toNat_ofNat]
  omega

theorem daa8_add8_bcd {x y : Nat} (hx : x < 100) (hy : y < 100) :
    (daa8 (add8 (bcd x) (bcd y) false).1 (add8 (bcd x) (bcd y) false).2).1 = bcd ((x + y) % 100) ∧
    flagC (daa8 (add8 (bcd x) (bcd y) false).1 (add8 (bcd x) (bcd y) false).2).2 = decide (100 ≤ x + y) := by
  obtain ⟨value, carry⟩ := daa8_add8 (bcd x) (bcd y)
  obtain ⟨tx, ux, htx, hux, eqX, hX, lowX⟩ := bcd_digits hx
  obtain ⟨ty, uy, hty, huy, eqY, hY, lowY⟩ := bcd_digits hy
  obtain ⟨ts, us, hts, hus, eqS, hS, lowS⟩ := bcd_digits (Nat.mod_lt (x + y) (show 0 < 100 by decide))
  rw [value, carry, lowX, lowY, hX, hY]
  refine ⟨BitVec.eq_of_toNat_eq ?_, decide_eq_decide.2 (by omega)⟩
  have turn : (x + y) / 100 = 0 ∨ (x + y) / 100 = 1 := by omega
  rw [hS]
  split_ifs <;> simp [hX, hY] <;> omega

theorem daa8_sub8_bcd {x y : Nat} (hx : x < 100) (hy : y < 100) :
    (daa8 (sub8 (bcd x) (bcd y) false).1 (sub8 (bcd x) (bcd y) false).2).1 = bcd ((x + 100 - y) % 100) ∧
    flagC (daa8 (sub8 (bcd x) (bcd y) false).1 (sub8 (bcd x) (bcd y) false).2).2 = decide (x < y) := by
  obtain ⟨tx, ux, htx, hux, eqX, hX, lowX⟩ := bcd_digits hx
  obtain ⟨ty, uy, hty, huy, eqY, hY, lowY⟩ := bcd_digits hy
  obtain ⟨td, ud, htd, hud, eqD, hD, lowD⟩ := bcd_digits (Nat.mod_lt (x + 100 - y) (show 0 < 100 by decide))
  obtain ⟨value, carry⟩ := daa8_sub8 (p := bcd x) (bcd y) (by omega) (by omega)
  rw [value, carry, lowX, lowY, hX, hY]
  refine ⟨BitVec.eq_of_toNat_eq ?_, decide_eq_decide.2 (by omega)⟩
  have turn : (x + 100 - y) / 100 = 0 ∨ (x + 100 - y) / 100 = 1 := by omega
  rw [hD]
  split_ifs <;> simp [hX, hY, BitVec.toNat_sub] <;> omega

/-- Settles O45: DAA's correction for the operands, taken digit by digit. -/
theorem decimalAdjustIsDecimal : Obligations.DecimalAdjustIsDecimal := by
  intro x y hx hy
  obtain ⟨sum, carry⟩ := daa8_add8_bcd hx hy
  obtain ⟨difference, borrow⟩ := daa8_sub8_bcd hx hy
  rw [← Nat.mod_mod_of_dvd (x + y) (show 10 ∣ 100 by decide),
    ← Nat.mod_mod_of_dvd (x + 100 - y) (show 10 ∣ 100 by decide)]
  exact ⟨bcd x, bcd y, rfl, rfl, sum, carry, difference, borrow⟩

end Sys2Proof.Machine
end

section
/-! 16-bit arithmetic: what each operation computes, and the instructions that apply it. -/

namespace Sys2Proof.Machine

theorem ofNat_boolToNat (n : Nat) (c : Bool) : BitVec.ofNat n c.toNat = if c then 1#n else 0#n := by cases c <;> rfl

theorem add16_fst (a v : Word) (f : Byte) : (add16 a v f).1 = a + v := by
  simp [add16, BitVec.ofNat_add]

theorem adc16_fst (a v : Word) (c : Bool) : (adc16 a v c).1 = a + v + (if c then 1#16 else 0#16) := by
  simp [adc16, BitVec.ofNat_add, ofNat_boolToNat]

theorem sbc16_fst (a v : Word) (c : Bool) : (sbc16 a v c).1 = a - v - (if c then 1#16 else 0#16) := by
  cases c <;> rfl

/-- The difference, the operand and the borrow add up to the first operand again. -/
theorem ofNat_sbc16_add (a v : Word) (c : Bool) :
    BitVec.ofNat 16 ((sbc16 a v c).1.toNat + v.toNat + c.toNat) = a := by
  simp only [BitVec.ofNat_add, ofNat_boolToNat, BitVec.ofNat_toNat, BitVec.setWidth_eq, sbc16_fst]
  ring

/-- ADD keeps S, Z and PV (R185). -/
theorem flagsAre_add16 (a v : Word) (f : Byte) :
    FlagsAre (add16 a v f).2 (flagS f) (flagZ f) ((add16 a v f).1.getLsbD 13)
      (decide (0xFFF < a.toNat % 0x1000 + v.toNat % 0x1000)) ((add16 a v f).1.getLsbD 11) (flagPV f) false
      (decide (0xFFFF < a.toNat + v.toNat)) :=
  flagsAre_packF ..

/-- PV is the signed overflow of the sum with the carry (R187). -/
theorem flagsAre_adc16 (a v : Word) (c : Bool) :
    FlagsAre (adc16 a v c).2 ((adc16 a v c).1.getLsbD 15) ((adc16 a v c).1 == 0#16) ((adc16 a v c).1.getLsbD 13)
      (decide (0xFFF < a.toNat % 0x1000 + v.toNat % 0x1000 + c.toNat)) ((adc16 a v c).1.getLsbD 11)
      (decide (a.toInt + v.toInt + (c.toNat : Int) < -32768 ∨ 32767 < a.toInt + v.toInt + (c.toNat : Int))) false
      (decide (0xFFFF < a.toNat + v.toNat + c.toNat)) := by
  have overflow := addOverflow_eq (n := 15) (a := a) (v := v) (c := c) rfl
  exact overflow ▸ flagsAre_packF ..

/-- PV is the signed overflow of the difference less the carry (R188). -/
theorem flagsAre_sbc16 (a v : Word) (c : Bool) :
    FlagsAre (sbc16 a v c).2 ((sbc16 a v c).1.getLsbD 15) ((sbc16 a v c).1 == 0#16) ((sbc16 a v c).1.getLsbD 13)
      (decide (a.toNat % 0x1000 < v.toNat % 0x1000 + c.toNat)) ((sbc16 a v c).1.getLsbD 11)
      (decide (a.toInt - v.toInt - (c.toNat : Int) < -32768 ∨ 32767 < a.toInt - v.toInt - (c.toNat : Int))) true
      (decide (a.toNat < v.toNat + c.toNat)) := by
  have overflow := subOverflow_eq (n := 15) (ofNat_sbc16_add a v c).symm
  exact overflow ▸ flagsAre_packF ..

/-- The source of ADD ii,rr: field p = 2 is the index register (R83, R186). -/
theorem State.idxPair_eq (s : State) (ii : Idx) (p : Pair) :
    s.idxPair ii p = if p = .hl then s.idx ii else s.pair p := by
  cases p <;> rfl

/-- An index register, F and MEMPTR written: ADD ii,rr (R186). -/
theorem State.setMemptr_setIdx_setF_took (s : State) (ii : Idx) (m v : Word) (f : Byte) (n : Nat) :
    (((s.setMemptr m).setIdx ii v).setF f).took n =
      { s.setIdx ii v with main := { s.main with f := f }, memptr := m, cycles := n } := by
  cases ii <;> rfl

/-- Settles O46: HL, or the index register, and F take the two answers of `add16`. -/
theorem wordAdditions : Obligations.WordAdditions :=
  ⟨fun _ _ s h => ⟨_, _, add16_fst .., flagsAre_add16 .., exec_of_op h s⟩,
    fun _ ii p s h => ⟨_, _, _, s.idxPair_eq ii p, add16_fst .., flagsAre_add16 ..,
      (exec_of_op h s).trans (congrArg _ (s.setMemptr_setIdx_setF_took ..))⟩⟩

/-- Settles O47: HL and F take the two answers of `adc16` or `sbc16`. -/
theorem wordCarryArithmetic : Obligations.WordCarryArithmetic :=
  ⟨fun _ _ s h => ⟨_, _, _, _, rfl, rfl, adc16_fst .., flagsAre_adc16 .., exec_of_op h s⟩,
    fun _ _ s h => ⟨_, _, _, _, rfl, rfl, sbc16_fst .., flagsAre_sbc16 .., exec_of_op h s⟩⟩

/-- Settles O48: each form writes its pair or index register, and nothing else. -/
theorem pairCounting : Obligations.PairCounting :=
  ⟨fun _ _ s h => exec_of_op h s, fun _ _ s h => exec_of_op h s, fun _ _ s h => exec_of_op h s,
    fun _ _ s h => exec_of_op h s⟩

end Sys2Proof.Machine
end

section
/-! The rotates and shifts: what each computes, and the instructions that apply it to A, to a register and to memory. -/

namespace Sys2Proof.Machine

theorem append_eq_shiftLeft_or {n m : Nat} (x : BitVec n) (y : BitVec m) :
    x ++ y = x.setWidth (n + m) <<< m ||| y.setWidth (n + m) :=
  (BitVec.setWidth_eq (x ++ y)).symm.trans BitVec.setWidth_append_eq_shiftLeft_setWidth_or

/-- A byte moved one place up, with c in the place left free. -/
theorem extractLsb'_append_ofBool (v : Byte) (c : Bool) :
    v.extractLsb' 0 7 ++ BitVec.ofBool c = v <<< 1 ||| (if c then 0x01#8 else 0x00#8) := by
  have moved : (v.extractLsb' 0 7).setWidth 8 <<< 1 = v <<< 1 := by
    revert v
    decide
  rw [append_eq_shiftLeft_or, moved]
  cases c <;> rfl

/-- A byte moved one place down, with c in the place left free. -/
theorem ofBool_append_extractLsb' (v : Byte) (c : Bool) :
    BitVec.ofBool c ++ v.extractLsb' 1 7 = v >>> 1 ||| (if c then 0x80#8 else 0x00#8) := by
  have moved : (v.extractLsb' 1 7).setWidth 8 = v >>> 1 := by
    revert v
    decide
  rw [append_eq_shiftLeft_or, moved, BitVec.or_comm]
  cases c <;> rfl

theorem rotateLeft_one_eq (v : Byte) : v.rotateLeft 1 = v <<< 1 ||| (if v.getLsbD 7 then 0x01#8 else 0x00#8) := by
  revert v
  decide

theorem rotateRight_one_eq (v : Byte) : v.rotateRight 1 = v >>> 1 ||| (if v.getLsbD 0 then 0x80#8 else 0x00#8) := by
  revert v
  decide

theorem sshiftRight_one_eq (v : Byte) : v.sshiftRight 1 = v >>> 1 ||| (if v.getLsbD 7 then 0x80#8 else 0x00#8) := by
  revert v
  decide

/-- The result of each rotate and shift in the library's words, and the bit that leaves (R200 to R207): up or down one
place, with the bit that leaves, the carry, the sign or a constant in the place left free. -/
theorem rotate_eq (v : Byte) (c : Bool) :
    rotate .rlc v c = (v.rotateLeft 1, v.getLsbD 7) ∧ rotate .rrc v c = (v.rotateRight 1, v.getLsbD 0) ∧
    rotate .rl v c = (v <<< 1 ||| (if c then 0x01#8 else 0x00#8), v.getLsbD 7) ∧
    rotate .rr v c = (v >>> 1 ||| (if c then 0x80#8 else 0x00#8), v.getLsbD 0) ∧
    rotate .sla v c = (v <<< 1, v.getLsbD 7) ∧ rotate .sra v c = (v.sshiftRight 1, v.getLsbD 0) ∧
    rotate .sll v c = (v <<< 1 ||| 0x01#8, v.getLsbD 7) ∧ rotate .srl v c = (v >>> 1, v.getLsbD 0) := by
  have up (b : Bool) := congrArg (·, v.getLsbD 7) (extractLsb'_append_ofBool v b)
  have down (b : Bool) := congrArg (·, v.getLsbD 0) (ofBool_append_extractLsb' v b)
  refine ⟨?rlc, ?rrc, up c, down c, ?sla, ?sra, up true, ?srl⟩
  case rlc => rw [rotateLeft_one_eq]; exact up (v.getLsbD 7)
  case rrc => rw [rotateRight_one_eq]; exact down (v.getLsbD 0)
  case sla => rw [← BitVec.or_zero (x := v <<< 1)]; exact up false
  case sra => rw [sshiftRight_one_eq]; exact down (v.getLsbD 7)
  case srl => rw [← BitVec.or_zero (x := v >>> 1)]; exact down false

/-- A rotate of A writes A, F and the cycle count, and keeps S, Z and PV (R195). -/
theorem State.rotateA_eq {s : State} {k : Rot} {w : Byte} {c : Bool}
    (h : rotate k s.main.a (flagC s.main.f) = (w, c)) :
    ∃ f, FlagsAre f (flagS s.main.f) (flagZ s.main.f) (w.getLsbD 5) false (w.getLsbD 3) (flagPV s.main.f) false c ∧
      s.rotateA k = { s with main := { s.main with a := w, f := f }, cycles := 4 } := by
  refine ⟨accRotateFlags w s.main.f c, flagsAre_packF .., ?_⟩
  rw [rotateA, h]
  rfl

/-- Settles O49: each is the rotate of A that its name says. -/
theorem accumulatorRotates : Obligations.AccumulatorRotates := by
  intro i s w c h
  obtain ⟨rlc, rrc, rl, rr, -⟩ := rotate_eq s.main.a (flagC s.main.f)
  obtain ⟨k, rot, run⟩ : ∃ k, rotate k s.main.a (flagC s.main.f) = (w, c) ∧ exec i s = .next (s.rotateA k) := by
    obtain ⟨h, rfl, rfl⟩ | ⟨h, rfl, rfl⟩ | ⟨h, rfl, rfl⟩ | ⟨h, rfl, rfl⟩ := h
    · exact ⟨.rlc, rlc, exec_of_op h s⟩
    · exact ⟨.rl, rl, exec_of_op h s⟩
    · exact ⟨.rrc, rrc, exec_of_op h s⟩
    · exact ⟨.rr, rr, exec_of_op h s⟩
  obtain ⟨f, flags, eq⟩ := s.rotateA_eq rot
  exact ⟨f, flags, run.trans (congrArg _ eq)⟩

/-- A byte of memory changed, F set from it, and the result copied to a register where there is one (R208). -/
theorem State.modifyF_copyTo_took (s : State) (a : Word) (f g : Byte → Byte) (copy : Option Reg8) (n : Nat) :
    ∃ t, ((s.modifyF a f g).copyTo copy (f (s.peek a))).took n = t ∧ Stored s t a (f (s.peek a)) ∧
      t = { s.copyTo copy (f (s.peek a)) with
            mem := t.mem, main := { (s.copyTo copy (f (s.peek a))).main with f := g (s.peek a) },
            calls := s.calls ++ [.readMem a (s.peek a), .writeMem a (f (s.peek a))], cycles := n } := by
  obtain ⟨t, rfl, stored, eq⟩ := s.modifyF_took a f g n
  cases copy
  case none => exact ⟨_, rfl, stored, eq⟩
  case some r =>
    have copied := congrArg (State.copyTo · (some r) (f (s.peek a))) eq
    exact ⟨_, rfl, stored, copied.trans (by cases r <;> rfl)⟩

/-- Settles O50: a register is written, or one `modifyF` made, for the indexed form with MEMPTR set first. -/
theorem rotatesAndShifts : Obligations.RotatesAndShifts := by
  refine ⟨rotate_eq, fun k f v => ⟨_, rfl, rfl, flagsAre_szyx ..⟩, fun i k r s h => exec_of_op h s,
    fun i k s h => ?_, fun i ii d k copy s h => ?_⟩
  · obtain ⟨t, rfl, ht⟩ := s.modifyF_took s.hl (rotated k s.main.f) (rotatedF k s.main.f) 15
    exact ⟨_, _, _, rfl, rfl, exec_of_op h s, ht⟩
  · obtain ⟨t, rfl, stored, ht⟩ := (s.setMemptr (s.ea ii d)).modifyF_copyTo_took (s.ea ii d)
      (rotated k s.main.f) (rotatedF k s.main.f) copy 23
    exact ⟨_, _, _, _, rfl, rfl, rfl, exec_of_op h s, stored, ht.trans (by cases copy <;> rfl)⟩

/-! The digits of a byte, as nibbles and by masks and shifts. -/

theorem setWidth_lo4 (v : Byte) : (lo4 v).setWidth 8 = v &&& 0x0F#8 := by
  revert v
  decide

theorem setWidth_hi4 (v : Byte) : (hi4 v).setWidth 8 = v >>> 4 := by
  revert v
  decide

theorem setWidth_lo4_shiftLeft (v : Byte) : (lo4 v).setWidth 8 <<< 4 = v <<< 4 := by
  revert v
  decide

theorem setWidth_hi4_shiftLeft (v : Byte) : (hi4 v).setWidth 8 <<< 4 = v &&& 0xF0#8 := by
  revert v
  decide

/-- The byte at HL is read and m written there, A takes w, F its flags, and MEMPTR the next address: what RLD and RRD do
with their digits in place (R209, R210). -/
theorem State.exchangeDigits_took (s : State) (m w : Byte) :
    ∃ t f, FlagsAre f (w.getLsbD 7) (w == 0#8) (w.getLsbD 5) false (w.getLsbD 3) (parity w) false (flagC s.main.f) ∧
      (s.readMem s.hl fun _ u => ((((u.writeMem s.hl m).setA w).setMemptr (s.hl + 1#16)).setF
        (parityFlags w s.main.f)).took 18) = t ∧ Stored s t s.hl m ∧
      t = { s with
            mem := t.mem, main := { s.main with a := w, f := f }, memptr := s.hl + 1#16,
            calls := s.calls ++ [.readMem s.hl (s.peek s.hl), .writeMem s.hl m], cycles := 18 } := by
  refine ⟨_, parityFlags w s.main.f, flagsAre_szyx .., rfl, stored_of_write rfl, ?_⟩
  rw [List.append_cons]
  rfl

/-- Settles O51: the digits put together are the bytes the rule gives. -/
theorem digitRotates : Obligations.DigitRotates := by
  intro i s m w h
  obtain ⟨t, f, flags, eq, ht⟩ := s.exchangeDigits_took m w
  refine ⟨t, f, flags, ?_, ht⟩
  obtain ⟨h, hm, hw⟩ | ⟨h, hm, hw⟩ := h
  · have digitsM : lo4 (s.peek s.hl) ++ lo4 s.main.a = m := by
      rw [hm, append_eq_shiftLeft_or, setWidth_lo4_shiftLeft, setWidth_lo4]
    have digitsW : hi4 s.main.a ++ hi4 (s.peek s.hl) = w := by
      rw [hw, append_eq_shiftLeft_or, setWidth_hi4_shiftLeft, setWidth_hi4]
    rw [exec_of_op h, ← eq, ← digitsM, ← digitsW]
    rfl
  · have digitsM : lo4 s.main.a ++ hi4 (s.peek s.hl) = m := by
      rw [hm, append_eq_shiftLeft_or, setWidth_lo4_shiftLeft, setWidth_hi4]
    have digitsW : hi4 s.main.a ++ lo4 (s.peek s.hl) = w := by
      rw [hw, append_eq_shiftLeft_or, setWidth_hi4_shiftLeft, setWidth_lo4]
    rw [exec_of_op h, ← eq, ← digitsM, ← digitsW]
    rfl

end Sys2Proof.Machine
end

section
/-! The bit instructions: what BIT's flags are, what SET and RES make of each bit, and where they do it. -/

namespace Sys2Proof.Machine

/-- Bits 0 to 7 of a word's high byte are its bits 8 to 15. -/
theorem getLsbD_hiByte (w : Word) {k : Nat} (hk : k < 8) : (hiByte w).getLsbD k = w.getLsbD (8 + k) := by
  simp [hiByte, hk]

/-- The flags of BIT on bit b of v, with Y and X from yx (R215). -/
theorem flagsAre_bitFlags (b : BitVec 3) (v yx f : Byte) :
    FlagsAre (bitFlags b v yx f) (decide (b = 7#3) && v.getLsbD b.toNat) (!v.getLsbD b.toNat) (yx.getLsbD 5) true
      (yx.getLsbD 3) (!v.getLsbD b.toNat) false (flagC f) :=
  flagsAre_packF ..

/-- With yx the high byte of MEMPTR or of EA, Y and X are its bits 13 and 11 (R217, R218). -/
theorem flagsAre_bitFlags_hiByte (b : BitVec 3) (v f : Byte) (w : Word) :
    FlagsAre (bitFlags b v (hiByte w) f) (decide (b = 7#3) && v.getLsbD b.toNat) (!v.getLsbD b.toNat)
      (w.getLsbD 13) true (w.getLsbD 11) (!v.getLsbD b.toNat) false (flagC f) := by
  have y : (hiByte w).getLsbD 5 = w.getLsbD 13 := getLsbD_hiByte w (by decide)
  have x : (hiByte w).getLsbD 3 = w.getLsbD 11 := getLsbD_hiByte w (by decide)
  exact y ▸ x ▸ flagsAre_bitFlags b v (hiByte w) f

/-- Settles O52: F takes BIT's flags of the byte read, for the indexed form with MEMPTR set first. -/
theorem bitTests : Obligations.BitTests :=
  ⟨fun _ b r s h => ⟨_, _, _, rfl, rfl, flagsAre_bitFlags b _ (s.reg r) _, exec_of_op h s⟩,
    fun _ b s h => ⟨_, _, rfl, flagsAre_bitFlags_hiByte b _ _ s.memptr, exec_of_op h s⟩,
    fun _ ii d b _ s h => ⟨_, _, _, rfl, rfl, flagsAre_bitFlags_hiByte b _ _ (s.ea ii d), exec_of_op h s⟩⟩

/-- The mask of SET and RES has bit b alone (R215). -/
theorem getLsbD_bitMask (b : BitVec 3) (k : Nat) : (1#8 <<< b.toNat).getLsbD k = decide (k = b.toNat) := by
  have inByte : b.toNat < 8 := b.isLt
  have mask : (1#8 <<< b.toNat).getLsbD k = (decide (b.toNat < 8) && decide (b.toNat = k)) :=
    BitVec.getLsbD_twoPow b.toNat k
  simp [mask, inByte, eq_comm]

theorem getLsbD_setBit (b : BitVec 3) (v : Byte) (k : Nat) :
    (setBit b v).getLsbD k = if k = b.toNat then true else v.getLsbD k := by
  rw [setBit, BitVec.getLsbD_or, getLsbD_bitMask]
  split_ifs with at_b <;> simp [at_b]

theorem getLsbD_resBit (b : BitVec 3) (v : Byte) {k : Nat} (hk : k < 8) :
    (resBit b v).getLsbD k = if k = b.toNat then false else v.getLsbD k := by
  rw [resBit, BitVec.getLsbD_and, BitVec.getLsbD_not, getLsbD_bitMask]
  split_ifs with at_b <;> simp [at_b, hk]

/-- A byte of memory changed with no flag written, and the result copied to a register where there is one: what SET and
RES do in memory (R220, R221, R223, R224). -/
theorem State.modify_copyTo_took (s : State) (a : Word) (f : Byte → Byte) (copy : Option Reg8) (n : Nat) :
    ∃ t, ((s.modify a f).copyTo copy (f (s.peek a))).took n = t ∧ Stored s t a (f (s.peek a)) ∧
      t = { s.copyTo copy (f (s.peek a)) with
            mem := t.mem, calls := s.calls ++ [.readMem a (s.peek a), .writeMem a (f (s.peek a))], cycles := n } := by
  refine ⟨_, rfl, stored_of_write (State.copyTo_mem ..), ?_⟩
  rw [List.append_cons]
  cases copy <;> rfl

/-- The byte at HL changed by f: SET and RES on (HL) (R220, R223). -/
theorem exec_changes_atHl {i : Instr} {s : State} {f : Byte → Byte}
    (run : exec i s = .next ((s.modify s.hl f).took 15)) :
    ∃ t v w, v = s.peek s.hl ∧ w = f v ∧ exec i s = .next t ∧ Stored s t s.hl w ∧
      t = { s with
            mem := t.mem, calls := s.calls ++ [.readMem s.hl v, .writeMem s.hl w], cycles := 15 } := by
  obtain ⟨t, rfl, ht⟩ := s.modify_copyTo_took s.hl f none 15
  exact ⟨_, _, _, rfl, rfl, run, ht⟩

/-- The byte at EA changed by f, with MEMPTR set first and the register copy last: SET and RES on (ii+d) (R221, R224). -/
theorem exec_changes_atIdx {i : Instr} {s : State} {ii : Idx} {d : Byte} {f : Byte → Byte} {copy : Option Reg8}
    (run : exec i s = .next
      (s.indexed ii d fun ea s => ((s.modify ea f).copyTo copy (f (s.peek ea))).took 23)) :
    ∃ t ea v w, ea = s.idx ii + d.signExtend 16 ∧ v = s.peek ea ∧ w = f v ∧ exec i s = .next t ∧
      Stored s t ea w ∧
      t = { s.copyTo copy w with
            mem := t.mem, memptr := ea, calls := s.calls ++ [.readMem ea v, .writeMem ea w], cycles := 23 } := by
  obtain ⟨t, rfl, stored, ht⟩ := (s.setMemptr (s.ea ii d)).modify_copyTo_took (s.ea ii d) f copy 23
  exact ⟨_, _, _, _, rfl, rfl, rfl, run, stored, ht.trans (by cases copy <;> rfl)⟩

/-- Settles O53: a register is written, or one byte of memory changed, by `setBit` or by `resBit`. -/
theorem bitChanges : Obligations.BitChanges :=
  ⟨fun b v k _ => getLsbD_setBit b v k, fun _ _ _ s h => exec_of_op h s,
    fun _ _ s h => exec_changes_atHl (exec_of_op h s), fun _ _ _ _ _ s h => exec_changes_atIdx (exec_of_op h s),
    fun b v _ hk => getLsbD_resBit b v hk, fun _ _ _ s h => exec_of_op h s,
    fun _ _ s h => exec_changes_atHl (exec_of_op h s), fun _ _ _ _ _ s h => exec_changes_atIdx (exec_of_op h s)⟩

end Sys2Proof.Machine
end

section
/-! The maskable responses. They share the acknowledge; IM 0 and IM 1 then go to a fixed address, IM 2 to the one its table
holds. -/

namespace Sys2Proof.Machine

/-- Every maskable cause is acknowledged alike (R309, R310). -/
theorem State.acknowledged_maskable_eq (s : State) {c : Cause} (maskable : c ≠ .nmi) :
    s.acknowledged c = { s with
      intLatch := false, halted := false, r := bumpRefresh 1 s.r, iff1 := false, iff2 := false, sp := s.sp - 2#16,
      mem := (s.acknowledged c).mem,
      calls := s.calls ++ [.writeMem (s.sp - 1#16) (hiByte s.pc), .writeMem (s.sp - 2#16) (loByte s.pc)] } := by
  cases c
  case nmi => exact absurd rfl maskable
  all_goals
    rw [State.acknowledged, State.push16_eq]
    simp [State.clearLatch, State.wake, State.bumpR, State.maskInterrupts]

/-- After the push a response leaves memory alone. -/
theorem takeInterrupt_mem (c : Cause) (s : State) : (takeInterrupt c s).mem = (s.acknowledged c).mem := by
  rw [takeInterrupt_eq]
  cases c <;> rfl

@[simp] theorem respond_peek (c : Cause) (s : State) (x : Word) :
    (respond c s).peek x = (s.acknowledged c).peek x := by
  rw [State.peek, State.peek, ← takeInterrupt_mem]
  rfl

theorem respond_stored2 (c : Cause) (s : State) :
    Stored2 s (respond c s.beginStep) (s.sp - 1#16) (hiByte s.pc) (s.sp - 2#16) (loByte s.pc) := by
  simpa [Stored2] using s.beginStep.acknowledged_stored2 c

theorem step_of_maskable {s : State} (noNmi : s.nmiLatch = false) (noPrefix : s.pendingPrefix = none)
    (noDelay : s.eiDelay = false) (enabled : s.iff1 = true) (request : s.intLatch = true ∨ s.pollAnswer = true) :
    step s = .next (respond (maskableCause s.im) s.beginStep) := by
  have nmi : s.acceptsNmi = false := by simp [State.acceptsNmi, noNmi]
  have maskable : s.acceptsMaskable = true := by simp [State.acceptsMaskable, noPrefix, noDelay, enabled, request]
  simp [step, runStep, nmi, maskable]

/-- The address that IM 0 and IM 1 go to (R311, R312). -/
theorem takeInterrupt_fixed {m : IntMode} (s : State) (fixed : m ≠ .im2) :
    ∃ w, (m = .im0 → w = s.params.im0Vector) ∧ (m = .im1 → w = 0x0038#16) ∧
      takeInterrupt (maskableCause m) s = ((s.acknowledged (maskableCause m)).jump w).took 13 := by
  cases m
  case im0 => exact ⟨_, fun _ => rfl, nofun, takeInterrupt_int0 s⟩
  case im1 => exact ⟨_, nofun, fun _ => rfl, takeInterrupt_int1 s⟩
  case im2 => exact absurd rfl fixed

/-- Settles O13: the acknowledge, then the jump to the mode's address. -/
theorem fixedVectorResponse : Obligations.FixedVectorResponse := by
  intro s noNmi noPrefix noDelay enabled request fixed
  obtain ⟨w, im0, im1, taken⟩ := takeInterrupt_fixed s.beginStep fixed
  refine ⟨_, w, step_of_maskable noNmi noPrefix noDelay enabled request, im0, im1, ?_, respond_stored2 _ s⟩
  rw [respond, taken, s.beginStep.acknowledged_maskable_eq (maskableCause_ne_nmi s.im)]
  simp [State.jump, State.setPc, State.setMemptr, State.took, State.addWaits, State.addCycles, State.noteQ,
    State.beginStep]

theorem State.acknowledged_vectorAnswer (s : State) (c : Cause) :
    (s.acknowledged c).vectorAnswer = s.vectorAnswer := by
  simp [State.vectorAnswer]

/-- In IM 2 the table entry is read at {I, v} after the push, and is the address gone to (R313, R314). -/
theorem takeInterrupt_int2 {s : State} {v : Byte} {a w : Word} (vector : s.vectorAnswer = v) (entry : pack s.i v = a)
    (target : pack ((s.acknowledged .int2).peek (a + 1#16)) ((s.acknowledged .int2).peek a) = w) :
    takeInterrupt .int2 s = { s.acknowledged .int2 with
      pc := w, memptr := w, vectorAnswers := s.vectorAnswers.tail,
      draws := if s.vectorAnswers.isEmpty then s.draws + 1 else s.draws,
      calls := (s.acknowledged .int2).calls ++
        [.vectorLowByte v, .readMem a ((s.acknowledged .int2).peek a),
          .readMem (a + 1#16) ((s.acknowledged .int2).peek (a + 1#16))],
      cycles := 19 } := by
  subst target entry vector
  rw [takeInterrupt_eq, State.handler, State.vectorLowByte, State.readMem16_eq, State.acknowledged_vectorAnswer]
  simp [State.jump, State.setPc, State.setMemptr, State.took, State.log, State.peek, Cause.cycles]

theorem respond_int2_eq {s t : State} {v : Byte} {a w : Word} (response : respond .int2 s.beginStep = t)
    (vector : s.beginStep.vectorAnswer = v) (entry : pack s.i v = a)
    (target : pack (t.peek (a + 1#16)) (t.peek a) = w) :
    t = { s with
      intLatch := false, halted := false, r := bumpRefresh 1 s.r, iff1 := false, iff2 := false, sp := s.sp - 2#16,
      pc := w, memptr := w, mem := t.mem, eiDelay := false, q := false, pollAnswers := s.pollAnswers.tail,
      vectorAnswers := s.vectorAnswers.tail,
      draws := if s.vectorAnswers.isEmpty then s.beginStep.draws + 1 else s.beginStep.draws,
      calls := [.pollPending s.pollAnswer, .writeMem (s.sp - 1#16) (hiByte s.pc),
        .writeMem (s.sp - 2#16) (loByte s.pc), .vectorLowByte v, .readMem a (t.peek a),
        .readMem (a + 1#16) (t.peek (a + 1#16))],
      cycles := 19 + s.params.m1Wait } := by
  subst response
  simp only [respond_peek] at target ⊢
  rw [respond, takeInterrupt_int2 vector entry target, s.beginStep.acknowledged_maskable_eq (by decide)]
  simp [State.addWaits, State.addCycles, State.noteQ, State.beginStep, State.peek]

/-- Settles O14: the acknowledge, then the jump to the word in the table. -/
theorem tableVectorResponse : Obligations.TableVectorResponse := by
  intro s noNmi noPrefix noDelay enabled request table
  have hs := step_of_maskable noNmi noPrefix noDelay enabled request
  rw [table, maskableCause] at hs
  have response := respond_int2_eq (s := s) rfl rfl rfl rfl
  have pc := congrArg State.pc response
  have memptr := congrArg State.memptr response
  refine ⟨_, _, _, _, rfl, rfl, rfl, hs, pc, memptr.trans pc.symm, ?_, respond_stored2 _ s⟩
  rw [pc, memptr]
  exact response

end Sys2Proof.Machine
end
